-- ==== Sys2Proof/Word.lean ====
section
/-! DEFINITION. The word types of the block.

R22: every control register, filter register and named intermediate value is a 32-bit two's-complement
integer. `+`, `-`, `*` and `<<<` on `Word` wrap modulo 2^32, which is R22's `wrap32` after every operation. -/

namespace Sys2Proof

/-- A 32-bit register, operand word or intermediate value (R22, R112). -/
abbrev Word := BitVec 32

/-- One byte of host memory (R83). -/
abbrev Byte := BitVec 8

/-- One element of `analog` or `inp`: 8-bit two's complement, in IRE units (R41, R42, R120). -/
abbrev Sample := BitVec 8

end Sys2Proof
end

