-- ==== Sys2Proof/Machine/Arith.lean ====
section
/-! DEFINITION. The arithmetic primitives of R22 to R25 on 32-bit words, and loops.

`+`, `-`, `*` on `Word` are R22's wrapping operations. Comparisons in the rules are signed and are written
on `toInt`. -/

namespace Sys2Proof.Machine

/-- `asr(v, k) = floor(v / 2^k)`, sign-propagating (R23). -/
def asr (v : Word) (k : Nat) : Word := v.sshiftRight k

/-- `v << k = wrap32(v * 2^k)` (R23). -/
def shl (v : Word) (k : Nat) : Word := v <<< k

/-- `tdiv(a, b)`, the quotient truncated toward zero (R24). The rules never divide by zero in a state that
meets `State.Inv` (assumption 11). -/
def tdiv (a b : Word) : Word := a.sdiv b

/-- `tmod(a, b) = a - b * tdiv(a, b)`, with the sign of the dividend (R24). -/
def tmod (a b : Word) : Word := a.srem b

/-- `POSMOD(a, m) = tmod(tmod(a, m) + m, m)`, in `[0, m)` for `m > 0` (R24). -/
def posmod (a m : Word) : Word := tmod (tmod a m + m) m

/-- `clamp(v, lo, hi)`, signed (R25). -/
def clamp (v lo hi : Word) : Word :=
  if v.toInt < lo.toInt then lo else if hi.toInt < v.toInt then hi else v

/-- The signed minimum of R185. -/
def smin (a b : Word) : Word := if a.toInt ≤ b.toInt then a else b

/-- `sext8` (R25): an 8-bit sample as a 32-bit integer (R120). -/
def sext8 (b : Sample) : Word := b.signExtend 32

/-- A natural number as a word. -/
def wordOf (n : Nat) : Word := BitVec.ofNat 32 n

/-- A word that the rules use as an index or a count: its value where it is not negative, else 0. -/
def natOf (v : Word) : Nat := v.toInt.toNat

/-- `w[hi:lo]` (R21), as a word. -/
def bits (w : Word) (hi lo : Nat) : Word := wordOf (w.toNat / 2 ^ lo % 2 ^ (hi + 1 - lo))

/-- A 1-bit value as an integer 0 or 1. -/
def bit (b : Bool) : Word := if b then 1 else 0

/-- `n` rounds of a loop body, at `i, i + 1, …`, in that order (R25, R26). -/
def loop {σ : Type} (body : Nat → σ → σ) : Nat → Nat → σ → σ
  | 0, _, acc => acc
  | n + 1, i, acc => loop body n (i + 1) (body i acc)

/-- `for i in [a, b)` (R25): nothing when `b <= a`. -/
def forRange {σ : Type} (a b : Nat) (acc : σ) (body : Nat → σ → σ) : σ := loop body (b - a) a acc

end Sys2Proof.Machine
end

