-- ==== Sys2Proof/Config.lean ====
section
/-! DEFINITION. The configuration of one build (R9, R18, R19, R20) and the model's free values.

R61: the configuration is a parameter of the step. `step` takes a State only, so State carries a `Config`
that no step changes (assumption 1); every statement therefore holds for every configuration. -/

namespace Sys2Proof

/-- `CHROMA_PATTERN` (R9). -/
inductive ChromaPattern where
  /-- Pattern 0: 228 chroma cycles a line, vertical. -/
  | vertical
  /-- Pattern 1: 227.5 chroma cycles a line, checkered. -/
  | checkered
  deriving DecidableEq, Repr

/-- The five integers `EQX_*` of one equalizer (R19). -/
structure EqParams where
  /-- `EQX_FLO_KHZ` -/
  floKhz : Word
  /-- `EQX_FHI_KHZ` -/
  fhiKhz : Word
  /-- `EQX_GLO` -/
  gLo : Word
  /-- `EQX_GMID` -/
  gMid : Word
  /-- `EQX_GHI` -/
  gHi : Word
  deriving DecidableEq, Repr

/-- The build-time constants of one block (R9, R18, R19, R20). `SYSTEM` is NTSC and `CC_SAMPLES` is 4: the
only values R8 and R9 leave (assumption 16). -/
structure Config where
  /-- `CHROMA_PATTERN` -/
  chroma : ChromaPattern
  /-- `DO_BLOOM` -/
  doBloom : Bool
  /-- `DO_HSYNC` -/
  doHsync : Bool
  /-- `DO_VSYNC` -/
  doVsync : Bool
  /-- `HSYNC_WINDOW`, in samples (R18) -/
  hsyncWindow : Nat
  /-- `VSYNC_WINDOW`, in lines (R18) -/
  vsyncWindow : Nat
  /-- `HSYNC_THRESH` (R18) -/
  hsyncThresh : Word
  /-- `VSYNC_THRESH` (R18) -/
  vsyncThresh : Word
  /-- `EQY_*` (R19) -/
  eqY : EqParams
  /-- `EQI_*` (R19) -/
  eqI : EqParams
  /-- `EQQ_*` (R19) -/
  eqQ : EqParams
  /-- `WAVE_SHIFT` (R20, R231) -/
  waveShift : Nat
  /-- `SYNC_FAIL_SLEW` (R20, R216, R224) -/
  syncFailSlew : Bool
  deriving DecidableEq, Repr

namespace Config

/-- The reference-build values of R9, R18, R19 and the defaults of R20, which 95_test_vectors.md uses.
DESIGN CHOICE (assumption 1): the spec leaves them OPEN; unsafe for a claim about `State.reset` only. -/
def reference : Config where
  chroma := .checkered
  doBloom := false
  doHsync := true
  doVsync := true
  hsyncWindow := 8
  vsyncWindow := 8
  hsyncThresh := 4
  vsyncThresh := 94
  eqY := { floKhz := 1500, fhiKhz := 3000, gLo := 65536, gMid := 8192, gHi := 9175 }
  eqI := { floKhz := 80, fhiKhz := 1150, gLo := 65536, gMid := 65536, gHi := 1311 }
  eqQ := { floKhz := 80, fhiKhz := 1000, gLo := 65536, gMid := 65536, gHi := 0 }
  waveShift := 4
  syncFailSlew := false

end Config

/-- All that DEMODULATE may read when it starts (R210): its output is a function of it (R246). The free values
below are functions of it too, so they break no determinism (assumption 9). -/
structure DemodInput where
  cfg : Config
  noise : Word
  analog : Array Sample
  ccf : List (Vector Word 4)
  hsync : Word
  vsync : Word
  rn : Word
  /-- `hue`, `saturation`, `brightness`, `contrast`, `black_point` -/
  controls : List Word
  scanlines : Bool
  blend : Bool
  /-- `outw`, `outh`, `out_format`, `out` -/
  output : List Word
  /-- `lf`, `hf`, `g[0..2]` of `eqY`, `eqI`, `eqQ` -/
  coefficients : List Word
  /-- the bytes of the output region when `blend = 1` -/
  old : List (Nat × Byte)
  deriving DecidableEq, Repr

namespace Config

/-- FREE VALUE (assumption 9): component `comp` (0 = y, 1 = i, 2 = q) of what the DEMODULATE that starts from
`start` reads from the line buffer at an index outside `0 .. AV_LEN`, for output line `line` and pixel `px`;
`side` is 0 for `lb[k]`, 1 for `lb[k + 1]`. The spec states no value there (R235 to R238). Safe. -/
opaque freeLineEntry (start : DemodInput) (line px side comp : Nat) : Word

/-- FREE VALUE (assumption 9): what the DEMODULATE that starts from `start` reads from `wave` at a negative
index, on output line `line` at buffer index `i`; `tap` is 0 for the I product, 3 for the Q product. The spec
states no value there (R236). Safe. -/
opaque freeWaveTap (start : DemodInput) (line : Nat) (i : Int) (tap : Nat) : Word

end Config

end Sys2Proof
end

