-- ==== Sys2Proof/Machine/Geometry.lean ====
section
/-! DEFINITION. Frame geometry, the line timeline, levels and the other constants of R10 to R20. -/

namespace Sys2Proof.Machine

/-- `N = CC_SAMPLES = 4` (R8, R9). -/
def ccSamples : Nat := 4

/-- `VRES = 262` lines per field (R10). -/
def vres : Nat := 262

/-- `TOP = 21`, the first active line (R10). -/
def topLine : Nat := 21

/-- `BOT = 261`, one past the last active line (R10). -/
def botLine : Nat := 261

/-- `LINES = BOT - TOP = 240` (R10). -/
def activeLines : Nat := botLine - topLine

/-- `CC_LINE10`, ten times the chroma cycles of a line (R11). -/
def ccLine10 (c : Config) : Nat :=
  match c.chroma with
  | .vertical => 2280
  | .checkered => 2275

/-- `HRES = tdiv(CC_LINE10 * N, 10)` samples per line (R11). -/
def hres (c : Config) : Nat := ccLine10 c * ccSamples / 10

/-- `SIZE = HRES * VRES` (R11). -/
def fieldSize (c : Config) : Nat := hres c * vres

/-- `CC_VPER`, the vertical chroma period (R12). -/
def ccVper (c : Config) : Nat :=
  match c.chroma with
  | .vertical => 1
  | .checkered => 2

/-- The durations of R13, in nanoseconds. -/
def fpNs : Nat := 1500
/-- `SYNC_ns` (R13) -/
def syncNs : Nat := 4700
/-- `BW_ns` (R13) -/
def bwNs : Nat := 600
/-- `CB_ns` (R13) -/
def cbNs : Nat := 2500
/-- `BP_ns` (R13) -/
def bpNs : Nat := 1600
/-- `AV_ns` (R13) -/
def avNs : Nat := 52600
/-- `LINE_ns`, the sum of the six (R13) -/
def lineNs : Nat := fpNs + syncNs + bwNs + cbNs + bpNs + avNs

/-- `ns2pos(ns) = tdiv(ns * HRES, LINE_ns)` (R14). -/
def ns2pos (c : Config) (ns : Nat) : Nat := ns * hres c / lineNs

/-- `FP_BEG` (R14) -/
def fpBeg (c : Config) : Nat := ns2pos c 0
/-- `SYNC_BEG` (R14) -/
def syncBeg (c : Config) : Nat := ns2pos c fpNs
/-- `BW_BEG` (R14) -/
def bwBeg (c : Config) : Nat := ns2pos c (fpNs + syncNs)
/-- `CB_BEG` (R14) -/
def cbBeg (c : Config) : Nat := ns2pos c (fpNs + syncNs + bwNs)
/-- `BP_BEG` (R14) -/
def bpBeg (c : Config) : Nat := ns2pos c (fpNs + syncNs + bwNs + cbNs)
/-- `AV_BEG` (R14) -/
def avBeg (c : Config) : Nat := ns2pos c (fpNs + syncNs + bwNs + cbNs + bpNs)
/-- `AV_LEN` (R14) -/
def avLen (c : Config) : Nat := ns2pos c avNs

/-- `pct(p) = tdiv(p * HRES, 100)` (R190). -/
def pct (c : Config) (p : Nat) : Nat := p * hres c / 100

/-- `WHITE_LEVEL = 100` (R15) -/
def whiteLevel : Word := 100
/-- `BURST_LEVEL = 20` (R15) -/
def burstLevel : Word := 20
/-- `BLACK_LEVEL = 7` (R15) -/
def blackLevel : Word := 7
/-- `BLANK_LEVEL = 0` (R15) -/
def blankLevel : Word := 0
/-- `SYNC_LEVEL = -40` (R15) -/
def syncLevel : Word := -40

/-- `CB_CYCLES = 10` (R16) -/
def cbCycles : Nat := 10

/-- Samples of one burst, `CB_CYCLES * N = 40` (R16). -/
def burstLen : Nat := cbCycles * ccSamples

/-- `L_FREQ` (R17), in units of 10 Hz like the next three. -/
def lFreq : Word := 1431818
/-- `Y_FREQ` (R17) -/
def yFreq : Word := 420000
/-- `I_FREQ` (R17) -/
def iFreq : Word := 150000
/-- `Q_FREQ` (R17) -/
def qFreq : Word := 55000

/-- `MAX_DIM = 32767` (R20, R261). -/
def maxDim : Int := 32767

/-- The number of host byte addresses, `2^32` (R80, R89). -/
def addressSpace : Nat := 2 ^ 32

end Sys2Proof.Machine
end

