-- ==== Sys2Proof/Machine/State.lean ====
section
/-! DEFINITION. The state of one block (R40), the parameters of its step (R61), and power-on reset (R62). -/

namespace Sys2Proof.Machine

/-- `analog` or `inp`: `SIZE` signed 8-bit samples (R41, R42). -/
abbrev Buffer := Array Sample

/-- One row of `ccf`: `N = 4` accumulators (R43). -/
abbrev BurstRow := Vector Word 4

/-- Host byte memory (R82) as a list of cells in the canonical form `memoryWf`: addresses strictly rising,
no cell equal to what an unlisted address reads as (assumption 2). -/
abbrev Memory := List Host.Cell

/-- The monitor controls (R46, R47), registers 0x00 to 0x07. -/
structure Monitor where
  hue : Word
  saturation : Word
  brightness : Word
  contrast : Word
  blackPoint : Word
  whitePoint : Word
  scanlines : Bool
  blend : Bool
  deriving DecidableEq, Repr

/-- The output descriptor (R48), registers 0x08 to 0x0B. -/
structure OutDesc where
  outw : Word
  outh : Word
  format : Word
  /-- `out`, an unsigned host byte address -/
  base : Word
  deriving DecidableEq, Repr

/-- The modulator settings bank (R50), registers 0x10 to 0x1B. -/
structure Settings where
  /-- `S_DATA`, an unsigned host byte address -/
  data : Word
  format : Word
  w : Word
  h : Word
  raw : Bool
  asColor : Bool
  field : Bool
  frame : Bool
  hue : Word
  xoffset : Word
  yoffset : Word
  iirsInit : Bool
  deriving DecidableEq, Repr

/-- One IIR low-pass instance (R51). -/
structure Iir where
  /-- the coefficient, 11-bit fraction -/
  c : Word
  /-- the history -/
  h : Word
  deriving DecidableEq, Repr

/-- One equalizer instance (R52): the arrays `g`, `fL`, `fH`, `h` written out by index. -/
structure Equalizer where
  lf : Word
  hf : Word
  g0 : Word
  g1 : Word
  g2 : Word
  fL0 : Word
  fL1 : Word
  fL2 : Word
  fL3 : Word
  fH0 : Word
  fH1 : Word
  fH2 : Word
  fH3 : Word
  /-- the newest raw input -/
  h0 : Word
  h1 : Word
  /-- the oldest raw input -/
  h2 : Word
  deriving DecidableEq, Repr

/-- The fault causes of R281. -/
inductive Cause where
  /-- 1: decode (R117, R118) -/
  | illegalCommand
  /-- 2: SETCTL, GETCTL (R270, R271) -/
  | illegalRegister
  /-- 3: INIT, RESIZE, SETCTL, MODULATE, DEMODULATE (R281) -/
  | illegalOperand
  /-- 4: RESIZE, RESET, MODULATE, DEMODULATE (R282) -/
  | notInitialized
  /-- 5: MODULATE, DEMODULATE (R281) -/
  | memFault
  deriving DecidableEq, Repr

/-- The status of a response (R116). -/
inductive Status where
  | ok
  /-- `FAULT(cause)`, with the value of the cause register -/
  | fault (cause : BitVec 8)
  deriving DecidableEq, Repr

/-- The response record every command ends with (R116). -/
structure Response where
  status : Status
  r0 : Word
  r1 : Word
  deriving DecidableEq, Repr

/-- A range of host byte addresses, `base .. base + size - 1`. -/
structure Region where
  base : Nat
  size : Nat
  deriving DecidableEq, Repr

/-- The state of one block, exactly that of R40 (from `analog` to `fault`), and what R61 calls parameters of
the step: the configuration, host memory with the platform's predicates (R82) and the command port (R110,
R116), with the hardware reset input (R300). -/
structure State where
  /-- the build's configuration (R61; assumption 1); no step changes it -/
  cfg : Config
  /-- the modulator's field buffer (R41) -/
  analog : Buffer
  /-- the noisy field buffer (R42) -/
  inp : Buffer
  /-- the color carrier filter: `CC_VPER` rows (R43) -/
  ccf : List BurstRow
  /-- the horizontal sync seed (R44) -/
  hsync : Word
  /-- the vertical sync seed (R44) -/
  vsync : Word
  /-- the noise generator (R45) -/
  rn : Word
  /-- the monitor controls (R46, R47) -/
  monitor : Monitor
  /-- the output descriptor (R48) -/
  output : OutDesc
  /-- the modulator settings bank (R50) -/
  settings : Settings
  iirY : Iir
  iirI : Iir
  iirQ : Iir
  eqY : Equalizer
  eqI : Equalizer
  eqQ : Equalizer
  /-- `initialized` (R54) -/
  initialized : Bool
  /-- the cause register, 0 = no fault (R55) -/
  fault : BitVec 8
  /-- host byte memory (R82; assumption 2) -/
  mem : Memory
  /-- the bytes for which the platform's `Readable` holds (R82; assumption 3); no step changes it -/
  readable : List Region
  /-- the bytes for which the platform's `Writable` holds (R82; assumption 3); no step changes it -/
  writable : List Region
  /-- the words the host has presented and the block has not consumed, oldest first (R110; assumption 4) -/
  port : List Word
  /-- the response to the latest command (R116; assumption 5) -/
  response : Option Response
  /-- the hardware reset input (R300; assumption 6) -/
  resetInput : Bool
  deriving DecidableEq, Repr

/-- Why the machine has no next state. Both are the block waiting for the host (R119, U17): the step is not
a step of the block at all. Raised by the port only; safe. -/
inductive Fault where
  /-- Raised by `step` when no header word has been presented: the block is idle (R110, R295). Safe. -/
  | portEmpty
  /-- Raised by `step` when the operand words of a legal header are not all presented: R119's stuck state. Safe. -/
  | operandsMissing
  deriving DecidableEq, Repr

/-- Why an instruction is refused. -/
inductive Refusal where
  /-- Raised by `exec` for an instruction that has no meaning yet, by the table's mnemonic. Safe. No arm uses it. -/
  | notModelled (mnemonic : String)
  deriving DecidableEq, Repr

/-- All monitor controls zero (R62). -/
def Monitor.zero : Monitor :=
  { hue := 0, saturation := 0, brightness := 0, contrast := 0, blackPoint := 0, whitePoint := 0,
    scanlines := false, blend := false }

/-- The output descriptor zero (R62). -/
def OutDesc.zero : OutDesc := { outw := 0, outh := 0, format := 0, base := 0 }

/-- The settings bank zero (R62). -/
def Settings.zero : Settings :=
  { data := 0, format := 0, w := 0, h := 0, raw := false, asColor := false, field := false, frame := false,
    hue := 0, xoffset := 0, yoffset := 0, iirsInit := false }

/-- An IIR instance zero (R62). -/
def Iir.zero : Iir := { c := 0, h := 0 }

/-- An equalizer instance zero (R62). -/
def Equalizer.zero : Equalizer :=
  { lf := 0, hf := 0, g0 := 0, g1 := 0, g2 := 0, fL0 := 0, fL1 := 0, fL2 := 0, fL3 := 0,
    fH0 := 0, fH1 := 0, fH2 := 0, fH3 := 0, h0 := 0, h1 := 0, h2 := 0 }

/-- A field buffer of all-zero samples (R41, R42, R62). -/
def zeroBuffer (c : Config) : Buffer := Array.replicate (fieldSize c) 0

/-- A `ccf` row of zeros. -/
def zeroRow : BurstRow := Vector.replicate 4 0

/-- `ccf` all zero (R43, R62). -/
def zeroCcf (c : Config) : List BurstRow := List.replicate (ccVper c) zeroRow

/-- Power-on state of a block with a given configuration and surroundings (R62, R300): every register,
buffer element and filter register zero. -/
def State.powerOn (c : Config) (mem : Memory) (readable writable : List Region) (port : List Word) : State :=
  { cfg := c
    analog := zeroBuffer c
    inp := zeroBuffer c
    ccf := zeroCcf c
    hsync := 0
    vsync := 0
    rn := 0
    monitor := .zero
    output := .zero
    settings := .zero
    iirY := .zero
    iirI := .zero
    iirQ := .zero
    eqY := .zero
    eqI := .zero
    eqQ := .zero
    initialized := false
    fault := 0
    mem := mem
    readable := readable
    writable := writable
    port := port
    response := none
    resetInput := false }

/-- The whole host byte space as one region (R80). -/
def wholeSpace : List Region := [{ base := 0, size := addressSpace }]

/-- The machine right after power-on reset (R62, R300). The block's own registers are the spec's zeros; the
configuration (assumption 1), the empty memory (assumption 2), the regions (assumption 3), the empty port
(assumption 4) and the absent response (assumption 5) are the model's choices. -/
def State.reset : State := State.powerOn Config.reference [] wholeSpace wholeSpace []

end Sys2Proof.Machine
end

