-- ==== Sys2Proof/Machine/Ops.lean ====
section
/-! DEFINITION. The named operations over buffers, host memory, regions and the response; raising a fault;
power-on reset. -/

namespace Sys2Proof.Machine

/-! ## Field buffers -/

/-- `analog[i]` or `inp[i]` as a 32-bit integer (R41, R120). -/
def sample (b : Buffer) (i : Nat) : Word := sext8 (b.getD i 0)

/-- `analog[i] <- v` or `inp[i] <- v`: the element takes the low 8 bits (R41, R120). -/
def putSample (b : Buffer) (i : Nat) (v : Word) : Buffer := b.setIfInBounds i (v.setWidth 8)

/-- `fill(t0, t1, v)` of R190 on the line that starts at index `base`. -/
def fillLine (base t0 t1 : Nat) (v : Word) (b : Buffer) : Buffer :=
  forRange t0 t1 b fun t b => putSample b (base + t) v

/-- `INP(idx) = inp[POSMOD(idx, SIZE)]` (R81). -/
def inpAt (c : Config) (inp : Buffer) (idx : Word) : Word :=
  sample inp (natOf (posmod idx (wordOf (fieldSize c))))

/-! ## The color carrier filter -/

/-- `ccf[v][k]` (R43). -/
def ccfAt (ccf : List BurstRow) (v k : Nat) : Word := (ccf.getD v zeroRow)[k % 4]'(Nat.mod_lt k (by decide))

/-- An element of a row, by a bucket number taken modulo `N`. -/
def rowAt (row : BurstRow) (k : Nat) : Word := row[k % 4]'(Nat.mod_lt k (by decide))

/-- `row[k] <- v`, the bucket number taken modulo `N`. -/
def rowSet (row : BurstRow) (k : Nat) (v : Word) : BurstRow := row.set (k % 4) v (Nat.mod_lt k (by decide))

/-! ## Host memory -/

/-- What a byte that no cell lists reads as. DESIGN CHOICE (assumption 2): R82 leaves the contents of host
memory to the host. -/
def unlistedByte : Byte := 0

/-- `MemRead(addr, 1)` (R83). -/
def readByte : Memory → Nat → Byte
  | [], _ => unlistedByte
  | (k, v) :: rest, a => if k = a then v else readByte rest a

/-- Put a byte in address order. -/
def insertByte : Memory → Nat → Byte → Memory
  | [], a, b => [(a, b)]
  | (k, v) :: rest, a, b =>
    if a < k then (a, b) :: (k, v) :: rest
    else if a = k then (a, b) :: rest
    else (k, v) :: insertByte rest a b

/-- Take an address out of the list. -/
def eraseByte : Memory → Nat → Memory
  | [], _ => []
  | (k, v) :: rest, a => if a = k then rest else (k, v) :: eraseByte rest a

/-- `MemWrite(addr, 1, v)` (R83), keeping the canonical form. -/
def writeByte (m : Memory) (a : Nat) (b : Byte) : Memory :=
  if b = unlistedByte then eraseByte m a else insertByte m a b

/-- The canonical form from address `lo` on: addresses strictly rising, inside the 2^32 byte addresses (R80),
no cell equal to what an unlisted address reads as. -/
def memoryWfFrom : Nat → Memory → Bool
  | _, [] => true
  | lo, (a, b) :: rest =>
    decide (lo ≤ a) && decide (a < addressSpace) && decide (b ≠ unlistedByte) && memoryWfFrom (a + 1) rest

/-- The canonical form of host memory. -/
def memoryWf (m : Memory) : Bool := memoryWfFrom 0 m

/-- The cells of the addresses `a .. a + n - 1`: reading an address of the range in them is reading it in
memory (Laws/Memory.lean, `readByte_window`). A command that only reads a row takes them once. -/
def window (m : Memory) (a n : Nat) : Memory := m.filter fun cell => decide (a ≤ cell.1) && decide (cell.1 < a + n)

/-! ## The platform's predicates -/

/-- Whether a byte address lies in a region. -/
def inRegion (r : Region) (a : Nat) : Bool := decide (r.base ≤ a) && decide (a < r.base + r.size)

/-- Whether some region of the list holds the address. -/
def inRegions (rs : List Region) (a : Nat) : Bool := rs.any fun r => inRegion r a

/-- Whether every byte of `a .. a + n - 1` lies in some region. The first uncovered byte of a range is its
first byte or the byte just past a region, so those are the bytes to try (Laws/Memory.lean, `covers_iff`). -/
def covers (rs : List Region) (a n : Nat) : Bool :=
  (a :: rs.map fun r => r.base + r.size).all fun p => decide (p < a) || decide (a + n ≤ p) || inRegions rs p

/-- `Readable(addr, len)` and `Writable(addr, len)` of R82: the bytes exist (R80) and the platform admits
each of them (assumption 3). -/
def admits (rs : List Region) (a n : Nat) : Bool := decide (a + n ≤ addressSpace) && covers rs a n

/-! ## Ending a command -/

/-- The outcomes of this machine. -/
abbrev Result := Host.Outcome State Fault Refusal

/-- The code of a cause (R281). -/
def Cause.code : Cause → BitVec 8
  | .illegalCommand => 1
  | .illegalRegister => 2
  | .illegalOperand => 3
  | .notInitialized => 4
  | .memFault => 5

/-- The state after `respond (OK, r0, r1)` (R116). -/
def answered (r0 r1 : Word) (s : State) : State :=
  { s with response := some { status := .ok, r0 := r0, r1 := r1 } }

/-- `respond (OK, r0, r1)` as the outcome of a command (R116). -/
def respondOk (r0 r1 : Word) (s : State) : Result := .next (answered r0 r1 s)

/-- The response of a faulted block: `FAULT` with the cause register (R283, R284). -/
def faultResponse (cause : BitVec 8) : Response := { status := .fault cause, r0 := 0, r1 := 0 }

/-- `raise Fault(cause)` (R283): the cause register takes the code, the response is `FAULT(cause)`, no other
state changes. This is the only exception entry of the block; it has no return but power-on reset (R284). -/
def faulted (cause : Cause) (s : State) : State :=
  { s with fault := cause.code, response := some (faultResponse cause.code) }

/-- `raise Fault(cause)` as the outcome of a command. -/
def raiseFault (cause : Cause) (s : State) : Result := .next (faulted cause s)

/-- The answer of a faulted block to one word (R284): the stored cause, no state change. -/
def refuseFaulted (s : State) : State := { s with response := some (faultResponse s.fault) }

/-- Power-on reset (R62, R300): every register, buffer element and filter register to zero. Host memory, the
platform's regions, the configuration and the words still at the port are not the block's and stay; the reset
input is released (assumption 6). -/
def powerOnReset (s : State) : State :=
  State.powerOn s.cfg s.mem s.readable s.writable s.port

end Sys2Proof.Machine
end

