-- ==== Sys2Proof/Machine/Flags.lean ====
section
/-! DEFINITION. The status bits of the block. It has no condition codes (R58): the only flags are
`initialized` (R54), read through STATUS, and the 1-bit control registers (R47, R50). -/

namespace Sys2Proof.Machine

/-- STATUS (R49): bit 0 is `initialized`, bits 31:1 read 0. -/
def statusWord (s : State) : Word := bit s.initialized

/-- The legal SETCTL values of a 1-bit register are 0 and 1 (R47, R49, R270). -/
def isBit (v : Word) : Bool := decide (v = 0) || decide (v = 1)

/-- A 1-bit register takes the value 1 as set and 0 as clear. -/
def flagOf (v : Word) : Bool := decide (v = 1)

/-- NOT_INITIALIZED is raised while `initialized` is 0 (R282). -/
def needsInit (s : State) : Bool := !s.initialized

end Sys2Proof.Machine
end

