-- ==== Sys2Proof/Machine/Operands.lean ====
section
/-! DEFINITION. Operand forms: pixel formats (R84, R124, R125), the output descriptor operands of INIT and
RESIZE (R261, R264), and the control registers by number (R49). -/

namespace Sys2Proof.Machine

/-! ## Pixel formats -/

/-- The six pixel formats (R84, R124). -/
inductive PixelFormat where
  | rgb
  | bgr
  | argb
  | rgba
  | abgr
  | bgra
  deriving DecidableEq, Repr

/-- The format of a code; every other 32-bit value is unrecognized (R124). -/
def pixelFormat? (code : Word) : Option PixelFormat :=
  if code = 0 then some .rgb
  else if code = 1 then some .bgr
  else if code = 2 then some .argb
  else if code = 3 then some .rgba
  else if code = 4 then some .abgr
  else if code = 5 then some .bgra
  else none

/-- Bytes per pixel (R84). -/
def PixelFormat.bytes : PixelFormat → Nat
  | .rgb => 3
  | .bgr => 3
  | .argb => 4
  | .rgba => 4
  | .abgr => 4
  | .bgra => 4

/-- `Roff` (R84) -/
def PixelFormat.rOff : PixelFormat → Nat
  | .rgb => 0
  | .bgr => 2
  | .argb => 1
  | .rgba => 0
  | .abgr => 3
  | .bgra => 2

/-- `Goff` (R84) -/
def PixelFormat.gOff : PixelFormat → Nat
  | .rgb => 1
  | .bgr => 1
  | .argb => 2
  | .rgba => 1
  | .abgr => 2
  | .bgra => 1

/-- `Boff` (R84) -/
def PixelFormat.bOff : PixelFormat → Nat
  | .rgb => 2
  | .bgr => 0
  | .argb => 3
  | .rgba => 2
  | .abgr => 1
  | .bgra => 0

/-- `bpp4fmt(f)` (R125): 3, 4, or 0 for an unrecognized format. -/
def bpp4fmt (code : Word) : Nat :=
  match pixelFormat? code with
  | some f => f.bytes
  | none => 0

/-- A byte of host memory as an unsigned integer 0..255 (R83). -/
def byteWord (b : Byte) : Word := b.setWidth 32

/-- The red, green and blue values of one pixel, each 0..255 (R85). -/
structure Rgb where
  r : Word
  g : Word
  b : Word
  deriving DecidableEq, Repr

/-- Read the red, green and blue bytes of the pixel at address `a`; the alpha byte is not read (R84, R86). -/
def readPixel (m : Memory) (f : PixelFormat) (a : Nat) : Rgb :=
  { r := byteWord (readByte m (a + f.rOff))
    g := byteWord (readByte m (a + f.gOff))
    b := byteWord (readByte m (a + f.bOff)) }

/-- Write the pixel at address `a`, three byte writes in the order R, G, B; the alpha byte is not written
(R86, R241; assumption 8). -/
def writePixel (m : Memory) (f : PixelFormat) (a : Nat) (p : Rgb) : Memory :=
  let m := writeByte m (a + f.rOff) (p.r.setWidth 8)
  let m := writeByte m (a + f.gOff) (p.g.setWidth 8)
  writeByte m (a + f.bOff) (p.b.setWidth 8)

/-! ## Descriptors -/

/-- `1 <= v <= MAX_DIM`, signed (R186, R261). -/
def dimOk (v : Word) : Bool := decide (1 ≤ v.toInt) && decide (v.toInt ≤ maxDim)

/-- `w * h * bpp`, over the natural numbers (R87 to R89). -/
def regionBytes (w h : Word) (bpp : Nat) : Nat := natOf w * natOf h * bpp

/-- The checks of INIT and RESIZE (R261, R264): both sizes in `1 .. MAX_DIM`, and the output region not past
`2^32` (R89). -/
def descriptorOk (w h f base : Word) : Bool :=
  dimOk w && dimOk h && decide (base.toNat + regionBytes w h (bpp4fmt f) ≤ addressSpace)

/-! ## Control registers -/

/-- The control registers of R49, each under its name. -/
inductive CtlReg where
  | hue
  | saturation
  | brightness
  | contrast
  | blackPoint
  | whitePoint
  | scanlines
  | blend
  | outw
  | outh
  | outFormat
  | outBase
  | hsync
  | vsync
  | rn
  | status
  | sData
  | sFormat
  | sW
  | sH
  | sRaw
  | sAsColor
  | sField
  | sFrame
  | sHue
  | sXoffset
  | sYoffset
  | sIirsInit
  /-- `CCF[v][k]` -/
  | ccf (v k : Nat)
  deriving DecidableEq, Repr

/-- The registers 0x00 to 0x1B of R49. -/
def namedReg? : Nat → Option CtlReg
  | 0x00 => some .hue
  | 0x01 => some .saturation
  | 0x02 => some .brightness
  | 0x03 => some .contrast
  | 0x04 => some .blackPoint
  | 0x05 => some .whitePoint
  | 0x06 => some .scanlines
  | 0x07 => some .blend
  | 0x08 => some .outw
  | 0x09 => some .outh
  | 0x0A => some .outFormat
  | 0x0B => some .outBase
  | 0x0C => some .hsync
  | 0x0D => some .vsync
  | 0x0E => some .rn
  | 0x0F => some .status
  | 0x10 => some .sData
  | 0x11 => some .sFormat
  | 0x12 => some .sW
  | 0x13 => some .sH
  | 0x14 => some .sRaw
  | 0x15 => some .sAsColor
  | 0x16 => some .sField
  | 0x17 => some .sFrame
  | 0x18 => some .sHue
  | 0x19 => some .sXoffset
  | 0x1A => some .sYoffset
  | 0x1B => some .sIirsInit
  | _ => none

/-- The register of a number (R49); the window `0x20 + v*N + k` has `CC_VPER` rows. `none` is an
unimplemented number. -/
def ctlReg? (c : Config) (n : Nat) : Option CtlReg :=
  if 0x20 ≤ n ∧ n < 0x20 + ccVper c * ccSamples then
    some (.ccf ((n - 0x20) / ccSamples) ((n - 0x20) % ccSamples))
  else namedReg? n

/-- The access column of R49: `true` for RO. -/
def CtlReg.readOnly : CtlReg → Bool
  | .outw => true
  | .outh => true
  | .outFormat => true
  | .outBase => true
  | .hsync => true
  | .vsync => true
  | .rn => true
  | .status => true
  | .ccf _ _ => true
  | .hue => false
  | .saturation => false
  | .brightness => false
  | .contrast => false
  | .blackPoint => false
  | .whitePoint => false
  | .scanlines => false
  | .blend => false
  | .sData => false
  | .sFormat => false
  | .sW => false
  | .sH => false
  | .sRaw => false
  | .sAsColor => false
  | .sField => false
  | .sFrame => false
  | .sHue => false
  | .sXoffset => false
  | .sYoffset => false
  | .sIirsInit => false

/-- The type column of R49: `true` for the 1-bit registers. -/
def CtlReg.isFlag : CtlReg → Bool
  | .scanlines => true
  | .blend => true
  | .sRaw => true
  | .sAsColor => true
  | .sField => true
  | .sFrame => true
  | .sIirsInit => true
  | .hue => false
  | .saturation => false
  | .brightness => false
  | .contrast => false
  | .blackPoint => false
  | .whitePoint => false
  | .outw => false
  | .outh => false
  | .outFormat => false
  | .outBase => false
  | .hsync => false
  | .vsync => false
  | .rn => false
  | .status => false
  | .sData => false
  | .sFormat => false
  | .sW => false
  | .sH => false
  | .sHue => false
  | .sXoffset => false
  | .sYoffset => false
  | .ccf _ _ => false

/-- `CR[reg]` as a 32-bit pattern: a 1-bit register zero-extended (R49, R271). -/
def readCtl (s : State) : CtlReg → Word
  | .hue => s.monitor.hue
  | .saturation => s.monitor.saturation
  | .brightness => s.monitor.brightness
  | .contrast => s.monitor.contrast
  | .blackPoint => s.monitor.blackPoint
  | .whitePoint => s.monitor.whitePoint
  | .scanlines => bit s.monitor.scanlines
  | .blend => bit s.monitor.blend
  | .outw => s.output.outw
  | .outh => s.output.outh
  | .outFormat => s.output.format
  | .outBase => s.output.base
  | .hsync => s.hsync
  | .vsync => s.vsync
  | .rn => s.rn
  | .status => statusWord s
  | .sData => s.settings.data
  | .sFormat => s.settings.format
  | .sW => s.settings.w
  | .sH => s.settings.h
  | .sRaw => bit s.settings.raw
  | .sAsColor => bit s.settings.asColor
  | .sField => bit s.settings.field
  | .sFrame => bit s.settings.frame
  | .sHue => s.settings.hue
  | .sXoffset => s.settings.xoffset
  | .sYoffset => s.settings.yoffset
  | .sIirsInit => bit s.settings.iirsInit
  | .ccf v k => ccfAt s.ccf v k

/-- The state with `monitor` replaced. -/
def setMonitor (s : State) (m : Monitor) : State := { s with monitor := m }

/-- The state with `settings` replaced. -/
def setSettings (s : State) (t : Settings) : State := { s with settings := t }

/-- `CR[reg] <- value` for the writable registers (R270). A read-only register is never written: SETCTL
faults before (R49). -/
def writeCtl (s : State) (v : Word) : CtlReg → State
  | .hue => setMonitor s { s.monitor with hue := v }
  | .saturation => setMonitor s { s.monitor with saturation := v }
  | .brightness => setMonitor s { s.monitor with brightness := v }
  | .contrast => setMonitor s { s.monitor with contrast := v }
  | .blackPoint => setMonitor s { s.monitor with blackPoint := v }
  | .whitePoint => setMonitor s { s.monitor with whitePoint := v }
  | .scanlines => setMonitor s { s.monitor with scanlines := flagOf v }
  | .blend => setMonitor s { s.monitor with blend := flagOf v }
  | .sData => setSettings s { s.settings with data := v }
  | .sFormat => setSettings s { s.settings with format := v }
  | .sW => setSettings s { s.settings with w := v }
  | .sH => setSettings s { s.settings with h := v }
  | .sRaw => setSettings s { s.settings with raw := flagOf v }
  | .sAsColor => setSettings s { s.settings with asColor := flagOf v }
  | .sField => setSettings s { s.settings with field := flagOf v }
  | .sFrame => setSettings s { s.settings with frame := flagOf v }
  | .sHue => setSettings s { s.settings with hue := v }
  | .sXoffset => setSettings s { s.settings with xoffset := v }
  | .sYoffset => setSettings s { s.settings with yoffset := v }
  | .sIirsInit => setSettings s { s.settings with iirsInit := flagOf v }
  | .outw => s
  | .outh => s
  | .outFormat => s
  | .outBase => s
  | .hsync => s
  | .vsync => s
  | .rn => s
  | .status => s
  | .ccf _ _ => s

end Sys2Proof.Machine
end

