-- ==== Sys2Proof/Machine/Control.lean ====
section
/-! DEFINITION. SETCTL (R270) and GETCTL (R271). -/

namespace Sys2Proof.Machine

/-- SETCTL to an implemented register (R270): read-only before the value, then the write. -/
def setRegister (r : CtlReg) (value : Word) (s : State) : Result :=
  if r.readOnly then raiseFault .illegalRegister s
  else if r.isFlag && !isBit value then raiseFault .illegalOperand s
  else respondOk 0 0 (writeCtl s value r)

/-- SETCTL (R270). -/
def execSetctl (reg : Nat) (value : Word) (s : State) : Result :=
  match ctlReg? s.cfg reg with
  | none => raiseFault .illegalRegister s
  | some r => setRegister r value s

/-- GETCTL (R271). -/
def execGetctl (reg : Nat) (s : State) : Result :=
  match ctlReg? s.cfg reg with
  | none => raiseFault .illegalRegister s
  | some r => respondOk (readCtl s r) 0 s

end Sys2Proof.Machine
end

