-- ==== Sys2Proof/Machine/Trig.lean ====
section
/-! DEFINITION. The fixed-point sine and cosine (R141 to R143) and exponential (R147 to R149). -/

namespace Sys2Proof.Machine

/-- `SIGPSIN15[0..17]` (R141). -/
def sigpsin15 : List Word :=
  [0x0000, 0x0c88, 0x18f8, 0x2528, 0x30f8, 0x3c50, 0x4718, 0x5130, 0x5a80,
   0x62f0, 0x6a68, 0x70e0, 0x7640, 0x7a78, 0x7d88, 0x7f60, 0x8000, 0x7f60]

/-- SINTAB (R142), for `0 <= n <= 4096`. -/
def sintab (n : Word) : Word :=
  let f := n &&& 0xff
  let i := natOf (asr n 8 &&& 0xff)
  let a := sigpsin15.getD i 0
  let b := sigpsin15.getD (i + 1) 0
  a + asr ((b - a) * f) 8

/-- The sine and cosine of an angle in the half turn, `0 <= h <= 8191` (R143). -/
def sincosHalf (h : Word) : Word × Word :=
  if 4095 < h.toInt then (sintab (8192 - h), -sintab (h - 4096))
  else (sintab h, sintab (4096 - h))

/-- `sincos14(angle)`, the pair `(s, c)` (R143). -/
def sincos14 (angle : Word) : Word × Word :=
  let n := angle &&& 16383
  let sc := sincosHalf (n &&& 8191)
  if 8191 < n.toInt then (-sc.1, -sc.2) else sc

/-- Degrees to angle units, `tdiv(deg * 8192, 180)` (R146). -/
def degrees (deg : Word) : Word := tdiv (deg * 8192) 180

/-- `EXP_PI` (R147) -/
def expPi : Word := 6434

/-- `exp_mul(x, y) = asr(wrap32(x * y), 11)` (R147). -/
def expMul (x y : Word) : Word := asr (x * y) 11

/-- `exp_div(x, y) = tdiv(wrap32(x << 11), y)` (R147). -/
def expDiv (x y : Word) : Word := tdiv (shl x 11) y

/-- `E11[0..4]` (R148). -/
def e11 : List Word := [2048, 5567, 15133, 41135, 111817]

/-- The Taylor loop of R149, `for i in [i, i + fuel)`: the sum `acc` when it ends. -/
def expTaylor (n : Word) : Nat → Nat → Word → Word → Word → Word
  | 0, _, _, acc, _ => acc
  | fuel + 1, i, nxt, acc, del =>
    let acc := acc + tdiv nxt del
    let nxt := expMul nxt n
    let del := del * wordOf i
    if nxt.toInt < del.toInt ∨ nxt.toInt ≤ 0 ∨ del.toInt ≤ 0 then acc
    else expTaylor n fuel (i + 1) nxt acc del

/-- The integer part of the exponent (R149): `E11[4]` once for each four, then `E11[idx & 3]`. -/
def expWhole (idx : Word) : Word :=
  let res := loop (fun _ res => expMul res (e11.getD 4 0)) (natOf (tdiv idx 4)) 0 2048
  let rest := natOf (idx &&& 3)
  if 0 < rest then expMul res (e11.getD rest 0) else res

/-- EXPX (R149): `e^(n/2048)` at scale 2048. The block uses it for the three arguments of R150 only; for an
argument where R149 leaves it undefined this is the rule's own computation (assumption 12). -/
def expx (n : Word) : Word :=
  if n = 0 then 2048
  else
    let m := if n.toInt < 0 then -n else n
    let whole := expWhole (asr m 11)
    let res := expMul whole (expTaylor (m &&& 2047) 16 1 2048 0 1)
    if n.toInt < 0 then expDiv 2048 res else res

end Sys2Proof.Machine
end

