-- ==== Sys2Proof/Machine/Filters.lean ====
section
/-! DEFINITION. The IIR low-pass (R160 to R164) and the three-band equalizer (R165 to R170). -/

namespace Sys2Proof.Machine

/-- A luma value and two chroma values: a pixel in YIQ (R198) or an entry of the line buffer (R235). -/
structure Yiq where
  y : Word
  i : Word
  q : Word
  deriving DecidableEq, Repr

/-- IIR_INIT(f, freq, limit) (R161); it does not depend on what `f` held. -/
def iirInit (freq limit : Word) : Iir :=
  let rate := tdiv (shl freq 9) limit
  { c := 2048 - expx (-tdiv (shl expPi 9) rate), h := 0 }

/-- IIR_RESET(f) (R162). -/
def iirReset (f : Iir) : Iir := { f with h := 0 }

/-- The history after IIR_STEP(f, s) (R163); it is also the output. -/
def iirStep (f : Iir) (s : Word) : Iir := { f with h := f.h + asr ((s - f.h) * f.c) 11 }

/-- EQ_INIT(f, f_lo, f_hi, rate, g_lo, g_mid, g_hi) (R166): `2 * (sn << 1)` of each angle. -/
def eqInit (fLo fHi rate gLo gMid gHi : Word) : Equalizer :=
  { Equalizer.zero with
    g0 := gLo
    g1 := gMid
    g2 := gHi
    lf := 2 * shl (sincos14 (tdiv (8192 * fLo) rate)).1 1
    hf := 2 * shl (sincos14 (tdiv (8192 * fHi) rate)).1 1 }

/-- EQ_RESET(f) (R167): stage memory and history to zero, coefficients kept. -/
def eqReset (f : Equalizer) : Equalizer :=
  { Equalizer.zero with lf := f.lf, hf := f.hf, g0 := f.g0, g1 := f.g1, g2 := f.g2 }

/-- One stage of a split (R168): `f + asr(k * (x - f) + 32768, 16)`. -/
def eqStage (k x f : Word) : Word := f + asr (k * (x - f) + 32768) 16

/-- The registers after EQ_STEP(f, s) (R168). -/
def eqStep (f : Equalizer) (s : Word) : Equalizer :=
  let l0 := eqStage f.lf s f.fL0
  let h0 := eqStage f.hf s f.fH0
  let l1 := eqStage f.lf l0 f.fL1
  let h1 := eqStage f.hf h0 f.fH1
  let l2 := eqStage f.lf l1 f.fL2
  let h2 := eqStage f.hf h1 f.fH2
  let l3 := eqStage f.lf l2 f.fL3
  let h3 := eqStage f.hf h2 f.fH3
  { f with
    fL0 := l0, fL1 := l1, fL2 := l2, fL3 := l3
    fH0 := h0, fH1 := h1, fH2 := h2, fH3 := h3
    h0 := s, h1 := f.h0, h2 := f.h1 }

/-- The output of EQ_STEP (R168): the bands of the registers `after` the stage updates, the high band against
the input `old` of three steps ago. -/
def eqBands (after : Equalizer) (old : Word) : Word :=
  asr (after.fL3 * after.g0) 16 + asr ((after.fH3 - after.fL3) * after.g1) 16
    + asr ((old - after.fH3) * after.g2) 16

/-- EQ_STEP(f, s) (R168): the registers after the step and the output sample. -/
def eqRun (f : Equalizer) (s : Word) : Equalizer × Word :=
  let after := eqStep f s
  (after, eqBands after f.h2)

end Sys2Proof.Machine
end

