-- ==== Sys2Proof/Machine/Demodulate.lean ====
section
/-! DEFINITION. DEMODULATE (R210 to R247), one definition a rule. -/

namespace Sys2Proof.Machine

/-! ## Step 1: noise -/

/-- One advance of the generator: `(214019 * rn + 140327895) mod 2^32` (R212). -/
def lcg (rn : Word) : Word := 214019 * rn + 140327895

/-- The noise added to a sample (R212): `asr(wrap32((rn[23:16] - 127) * noise), 8)`. -/
def noiseTerm (noise rn : Word) : Word := asr ((bits rn 23 16 - 127) * noise) 8

/-- A noisy sample (R212). -/
def noisySample (noise rn v : Word) : Word := clamp (v + noiseTerm noise rn) (-127) 127

/-- Step 1 (R212): the generator after the last sample, and `inp`. -/
def addNoise (c : Config) (noise : Word) (analog : Buffer) (acc : Word × Buffer) : Word × Buffer :=
  forRange 0 (fieldSize c) acc fun i (rn, inp) =>
    (lcg rn, putSample inp i (noisySample noise (lcg rn) (sample analog i)))

/-! ## Step 2: vertical sync -/

/-- Integrate a line from `j` on, `fuel` samples at most: the first `j` at which the sum has reached `limit`
(R214). -/
def integrateLine (inp : Buffer) (base : Nat) (limit : Word) : Nat → Nat → Word → Option Nat
  | 0, _, _ => none
  | fuel + 1, j, acc =>
    let acc := acc + sample inp (base + j)
    if acc.toInt ≤ limit.toInt then some j else integrateLine inp base limit fuel (j + 1) acc

/-- Candidate line `i` of the vertical search (R214): `POSMOD(vsync + i, VRES)`. -/
def vsyncCandidate (vsync : Word) (i : Int) : Nat := natOf (posmod (vsync + BitVec.ofInt 32 i) (wordOf vres))

/-- `VSYNC_THRESH * SYNC_LEVEL` (R214) -/
def vsyncLimit (c : Config) : Word := c.vsyncThresh * syncLevel

/-- The vertical search over `fuel` candidate lines from `i` on (R214): the first `(line, j)` that hits. -/
def vsyncSearch (c : Config) (inp : Buffer) (vsync : Word) : Nat → Int → Option (Nat × Nat)
  | 0, _ => none
  | fuel + 1, i =>
    let line := vsyncCandidate vsync i
    match integrateLine inp (line * hres c) (vsyncLimit c) (hres c) 0 0 with
    | some j => some (line, j)
    | none => vsyncSearch c inp vsync fuel (i + 1)

/-- The vertical search of R214: `i` in `[-VSYNC_WINDOW, VSYNC_WINDOW)`. -/
def vsyncHit (c : Config) (inp : Buffer) (vsync : Word) : Option (Nat × Nat) :=
  vsyncSearch c inp vsync (2 * c.vsyncWindow) (-(c.vsyncWindow : Int))

/-- `POSMOD(-3, VRES)`, the seed of a build without vertical search (R215, R216). -/
def vsyncDisabled : Word := posmod (-3) (wordOf vres)

/-- The field parity (R215, R216). -/
def fieldOf (c : Config) (hit : Option (Nat × Nat)) : Bool :=
  match hit with
  | some (_, j) => decide (hres c / 2 < j)
  | none => c.syncFailSlew

/-- The vertical seed after the search (R215, R216). -/
def vsyncAfter (c : Config) (vsync : Word) (hit : Option (Nat × Nat)) : Word :=
  if c.doVsync then
    match hit with
    | some (line, _) => wordOf line
    | none => if c.syncFailSlew then posmod (vsync + wordOf c.vsyncWindow - 1) (wordOf vres) else vsync
  else vsyncDisabled

/-! ## Once per command -/

/-- `ratio`, `outh / 240` rounded to nearest (R217). -/
def ratio (outh : Word) : Word := asr (tdiv (shl outh 16) (wordOf activeLines) + 32768) 16

/-- `field_off` (R217) -/
def fieldOff (outh : Word) (field : Bool) : Word := bit field * tdiv (ratio outh) 2

/-- `max_e` (R218) -/
def maxEnergy (c : Config) (noise : Word) : Word := (128 + tdiv noise 2) * wordOf (avLen c)

/-- What the line loop reads and does not change (R213 to R218): the block's registers and the values computed
once per command. -/
structure Scan where
  cfg : Config
  inp : Buffer
  /-- the vertical seed after step 2 -/
  vsync : Word
  monitor : Monitor
  output : OutDesc
  format : PixelFormat
  /-- `bright` (R213) -/
  bright : Word
  /-- `huesn` (R213) -/
  huesn : Word
  /-- `huecs` (R213) -/
  huecs : Word
  /-- `field_off` (R217) -/
  fieldOff : Word
  /-- `max_e` (R218) -/
  maxE : Word
  /-- what this DEMODULATE started from, for the free values (assumption 9) -/
  start : DemodInput

/-- The three equalizers (R52). -/
structure Equalizers where
  y : Equalizer
  i : Equalizer
  q : Equalizer
  deriving DecidableEq, Repr

/-- What the line loop carries from one line to the next (R219, R235): `hsync`, `ccf`, the equalizers,
`prev_e`, the line buffer and host memory. -/
structure LineCarry where
  hsync : Word
  ccf : List BurstRow
  eqs : Equalizers
  prevE : Word
  lb : Array Yiq
  mem : Memory

/-- `INP(idx)` (R81). -/
def Scan.input (e : Scan) (idx : Word) : Word := inpAt e.cfg e.inp idx

/-! ## Step 4a: horizontal sync -/

/-- The output band of a line, its first row (R220); also the test for skipping it. -/
def bandBegin (e : Scan) (line : Nat) : Word :=
  tdiv (wordOf (line - topLine) * e.output.outh) (wordOf activeLines) + e.fieldOff

/-- The end of the band, cut to `outh` (R220). -/
def bandEnd (e : Scan) (line : Nat) : Word :=
  smin (tdiv (wordOf (line - topLine + 1) * e.output.outh) (wordOf activeLines) + e.fieldOff) e.output.outh

/-- `ln`, where the signal line of an output line starts (R221). -/
def signalLine (e : Scan) (line : Nat) : Word :=
  posmod (wordOf line + e.vsync) (wordOf vres) * wordOf (hres e.cfg)

/-- `HSYNC_THRESH * SYNC_LEVEL` (R221) -/
def hsyncLimit (c : Config) : Word := c.hsyncThresh * syncLevel

/-- The horizontal search over `fuel` offsets from `i` on (R221): the first `i` at which the sum has reached
the threshold; `origin` is `ln + hsync + SYNC_BEG`. -/
def hsyncSearch (e : Scan) (origin : Word) : Nat → Int → Word → Option Int
  | 0, _, _ => none
  | fuel + 1, i, acc =>
    let acc := acc + e.input (origin + BitVec.ofInt 32 i)
    if acc.toInt ≤ (hsyncLimit e.cfg).toInt then some i else hsyncSearch e origin fuel (i + 1) acc

/-- The horizontal search of R221. -/
def hsyncHit (e : Scan) (line : Nat) (hsync : Word) : Option Int :=
  hsyncSearch e (signalLine e line + hsync + wordOf (syncBeg e.cfg)) (2 * e.cfg.hsyncWindow)
    (-(e.cfg.hsyncWindow : Int)) 0

/-- The horizontal seed after the search (R223, R224). -/
def hsyncAfter (c : Config) (hsync : Word) (hit : Option Int) : Word :=
  if c.doHsync then
    match hit with
    | some i => posmod (hsync + BitVec.ofInt 32 i) (wordOf (hres c))
    | none => if c.syncFailSlew then posmod (hsync + wordOf c.hsyncWindow) (wordOf (hres c)) else hsync
  else 0

/-! ## Steps 4b to 4d: position, burst, carrier -/

/-- `xpos` (R225) -/
def xpos (c : Config) (hsync : Word) : Word := posmod (wordOf (avBeg c) + hsync - 3) (wordOf (hres c))

/-- `ypos` (R225) -/
def ypos (e : Scan) (line : Nat) : Word := posmod (wordOf line + e.vsync + 3) (wordOf vres)

/-- `pos` (R225) -/
def picturePos (e : Scan) (line : Nat) (hsync : Word) : Word :=
  xpos e.cfg hsync + ypos e line * wordOf (hres e.cfg)

/-- Which row of `ccf` a line uses (R226). -/
def burstBucket (e : Scan) (line : Nat) : Nat := natOf (ypos e line) % ccVper e.cfg

/-- The recursive average of one bucket (R226, R229). -/
def averageBurst (old v : Word) : Word := tdiv (old * 127) 128 + v

/-- The burst integrator (R229): the row after the 40 samples of the burst; `base` is
`ln + (hsync - POSMOD(hsync, N))`. -/
def integrateBurst (e : Scan) (base : Word) (row : BurstRow) : BurstRow :=
  forRange (cbBeg e.cfg) (cbBeg e.cfg + burstLen) row fun t row =>
    rowSet row t (averageBurst (rowAt row t) (e.input (base + wordOf t)))

/-- `base` of R229. -/
def burstBase (e : Scan) (line : Nat) (hsync : Word) : Word :=
  signalLine e line + (hsync - posmod hsync (wordOf ccSamples))

/-- `align` (R230) -/
def align (hsync : Word) : Nat := natOf (posmod hsync (wordOf ccSamples))

/-- `dci` (R230) -/
def dci (row : BurstRow) (align : Nat) : Word := rowAt row (align + 1) - rowAt row (align + 3)

/-- `dcq` (R230) -/
def dcq (row : BurstRow) (align : Nat) : Word := rowAt row (align + 2) - rowAt row (align + 0)

/-- The demodulation carrier `wave` (R231). -/
def carrier (e : Scan) (row : BurstRow) (align : Nat) : BurstRow :=
  let di := dci row align
  let dq := dcq row align
  let w0 := asr (di * e.huecs - dq * e.huesn) e.cfg.waveShift * e.monitor.saturation
  let w1 := asr (dq * e.huecs + di * e.huesn) e.cfg.waveShift * e.monitor.saturation
  #v[w0, w1, -w0, -w1]

/-! ## Step 4e: bloom -/

/-- The resampling window of a line (R232, R233). -/
structure Window where
  prevE : Word
  dx : Word
  scanL : Word
  scanR : Word
  /-- `L` -/
  first : Int
  /-- `R` -/
  last : Int
  deriving DecidableEq, Repr

/-- The energy of a line: the sum of its active samples (R232). -/
def lineEnergy (e : Scan) (pos : Word) : Word :=
  forRange 0 (avLen e.cfg) 0 fun i acc => acc + e.input (pos + wordOf i)

/-- The filtered beam energy (R232). -/
def beamEnergy (maxE prevE s : Word) : Word :=
  tdiv (prevE * 123) 128 + tdiv (shl (asr maxE 1 - s) 10) maxE

/-- `line_w` (R232) -/
def lineWidth (c : Config) (prevE : Word) : Word := tdiv (wordOf (avLen c) * 112) 128 + asr prevE 9

/-- `scanR` (R232, R233) -/
def scanRight (c : Config) : Word := shl (wordOf (avLen c) - 1) 12

/-- Step 4e with `DO_BLOOM = 1` (R232). -/
def bloomWindow (e : Scan) (prevE pos : Word) : Window :=
  let pe := beamEnergy e.maxE prevE (lineEnergy e pos)
  let lw := lineWidth e.cfg pe
  let scanL := shl (tdiv (wordOf (avLen e.cfg)) 2 - asr lw 1 + 8) 12
  { prevE := pe
    dx := tdiv (shl lw 12) e.output.outw
    scanL := scanL
    scanR := scanRight e.cfg
    first := (asr scanL 12).toInt
    last := (asr (scanRight e.cfg) 12).toInt }

/-- Step 4e with `DO_BLOOM = 0` (R233). -/
def plainWindow (e : Scan) (prevE : Word) : Window :=
  { prevE := prevE
    dx := tdiv (shl (wordOf (avLen e.cfg) - 1) 12) e.output.outw
    scanL := 0
    scanR := scanRight e.cfg
    first := 0
    last := avLen e.cfg }

/-- Step 4e (R232, R233). -/
def scanWindow (e : Scan) (prevE pos : Word) : Window :=
  if e.cfg.doBloom then bloomWindow e prevE pos else plainWindow e prevE

/-! ## Step 4f: YIQ demodulation -/

/-- `wave[tmod(i + tap, 4)]` (R236). A negative index has no element: the value is free (assumption 9). -/
def waveTap (e : Scan) (line : Nat) (wave : BurstRow) (i : Int) (tap : Nat) : Word :=
  let k := Int.tmod (i + tap) 4
  if 0 ≤ k then rowAt wave k.toNat else Config.freeWaveTap e.start line i tap

/-- EQ_RESET of each equalizer (R234). -/
def equalizersReset (q : Equalizers) : Equalizers := { y := eqReset q.y, i := eqReset q.i, q := eqReset q.q }

/-- `lb[i] <- v` (R235, R236); an entry outside `0 .. AV_LEN` does not exist and is not written (assumption 10). -/
def putLine (lb : Array Yiq) (i : Int) (v : Yiq) : Array Yiq :=
  if 0 ≤ i then lb.setIfInBounds i.toNat v else lb

/-- One sample of the demodulator (R236): the three equalizers in the order Y, I, Q, then the line-buffer
entry. -/
def demodSample (e : Scan) (line : Nat) (wave : BurstRow) (pos : Word) (i : Int) (acc : Equalizers × Array Yiq) :
    Equalizers × Array Yiq :=
  let smp := e.input (pos + BitVec.ofInt 32 i)
  let y := eqRun acc.1.y (smp + e.bright)
  let ii := eqRun acc.1.i (asr (smp * waveTap e line wave i 0) 9)
  let q := eqRun acc.1.q (asr (smp * waveTap e line wave i 3) 9)
  ({ y := y.1, i := ii.1, q := q.1 },
    putLine acc.2 i { y := shl y.2 4, i := asr ii.2 3, q := asr q.2 3 })

/-- Step 4f (R234, R236): the equalizers and the line buffer after the line. -/
def demodSamples (e : Scan) (line : Nat) (wave : BurstRow) (pos : Word) (w : Window)
    (acc : Equalizers × Array Yiq) : Equalizers × Array Yiq :=
  forRange 0 (w.last - w.first).toNat (equalizersReset acc.1, acc.2) fun n acc =>
    demodSample e line wave pos (w.first + n) acc

/-! ## Steps 4g, 4h: resample, convert, blend, store -/

/-- `lb[k]` (R235, R238) read for output pixel `px`; `side` tells `lb[k]` from `lb[k + 1]`. An index outside
`0 .. AV_LEN` has no entry: the value is free (assumption 9). -/
def lineEntry (e : Scan) (line px side : Nat) (lb : Array Yiq) (k : Int) : Yiq :=
  if 0 ≤ k ∧ k ≤ avLen e.cfg then lb.getD k.toNat { y := 0, i := 0, q := 0 }
  else
    { y := Config.freeLineEntry e.start line px side 0
      i := Config.freeLineEntry e.start line px side 1
      q := Config.freeLineEntry e.start line px side 2 }

/-- Interpolation between the entries `a` and `b` at position `p` (R238). -/
def interpolate (p : Word) (a b : Yiq) : Yiq :=
  let rw := p &&& 0xfff
  let lw := 0xfff - rw
  { y := asr (a.y * lw) 2 + asr (b.y * rw) 2
    i := asr (a.i * lw) 14 + asr (b.i * rw) 14
    q := asr (a.q * lw) 14 + asr (b.q * rw) 14 }

/-- One channel of R239: `clamp(asr(asr(v, 12) * contrast, 8), 0, 255)`. -/
def channel (contrast v : Word) : Word := clamp (asr (asr v 12 * contrast) 8) 0 255

/-- YIQ to RGB (R239). -/
def yiqToRgb (contrast : Word) (p : Yiq) : Rgb :=
  { r := channel contrast (p.y + 3879 * p.i + 2556 * p.q)
    g := channel contrast (p.y - 1126 * p.i - 2605 * p.q)
    b := channel contrast (p.y - 4530 * p.i + 7021 * p.q) }

/-- The 24-bit value `{r[7:0], g[7:0], b[7:0]}` (R85, R240). -/
def packRgb (p : Rgb) : Word := shl p.r 16 ||| shl p.g 8 ||| p.b

/-- The three fields of a packed value (R241). -/
def unpackRgb (v : Word) : Rgb := { r := bits v 23 16, g := bits v 15 8, b := bits v 7 0 }

/-- The blend of a new and an old packed value (R240). -/
def blendPacked (new old : Word) : Word := asr (new &&& 0xfefeff) 1 + asr (old &&& 0xfefeff) 1

/-- What `store` writes (R240): the new pixel, or its blend with the pixel at the destination. -/
def storedPixel (e : Scan) (m : Memory) (addr : Nat) (p : Rgb) : Rgb :=
  if e.monitor.blend then unpackRgb (blendPacked (packRgb p) (packRgb (readPixel m e.format addr)))
  else unpackRgb (packRgb p)

/-- `store(addr, r, g, b)` (R240, R241). -/
def storePixel (e : Scan) (m : Memory) (addr : Nat) (p : Rgb) : Memory :=
  writePixel m e.format addr (storedPixel e m addr p)

/-- The pixel of position `p` (R237 to R239). -/
def pixelAt (e : Scan) (line : Nat) (lb : Array Yiq) (px : Nat) (p : Word) : Rgb :=
  let k := (asr p 12).toInt
  yiqToRgb e.monitor.contrast (interpolate p (lineEntry e line px 0 lb k) (lineEntry e line px 1 lb (k + 1)))

/-- The resampling loop of R237 with `fuel = outw - px` pixels left in the row. -/
def resample (e : Scan) (line : Nat) (lb : Array Yiq) (w : Window) : Nat → Nat → Word → Nat → Memory → Memory
  | 0, _, _, _, m => m
  | fuel + 1, px, p, addr, m =>
    if p.toInt < w.scanR.toInt then
      resample e line lb w fuel (px + 1) (p + w.dx) (addr + e.format.bytes)
        (storePixel e m addr (pixelAt e line lb px p))
    else m

/-! ## Step 4i: row duplication -/

/-- `pitch` (R211) -/
def pitch (e : Scan) : Nat := natOf e.output.outw * e.format.bytes

/-- The first byte of output row `r` (R88). -/
def rowAddr (e : Scan) (r : Nat) : Nat := e.output.base.toNat + r * pitch e

/-- Copy row `r - 1` to row `r`, all `pitch` bytes (R242). -/
def copyRow (e : Scan) (r : Nat) (m : Memory) : Memory :=
  forRange 0 (pitch e) m fun k m => writeByte m (rowAddr e r + k) (readByte m (rowAddr e (r - 1) + k))

/-- Step 4i (R242): rows `beg + 1 .. end - scanlines - 1`. -/
def duplicateRows (e : Scan) (first last : Nat) (m : Memory) : Memory :=
  forRange (first + 1) (last - (bit e.monitor.scanlines).toNat) m (copyRow e)

/-! ## The line loop -/

/-- Steps 4a to 4i of a line that is not skipped (R221 to R242). -/
def demodLineBody (e : Scan) (line : Nat) (c : LineCarry) : LineCarry :=
  let hsync := hsyncAfter e.cfg c.hsync (hsyncHit e line c.hsync)
  let bucket := burstBucket e line
  let row := integrateBurst e (burstBase e line hsync) (c.ccf.getD bucket zeroRow)
  let pos := picturePos e line hsync
  let w := scanWindow e c.prevE pos
  let out := demodSamples e line (carrier e row (align hsync)) pos w (c.eqs, c.lb)
  let first := natOf (bandBegin e line)
  let m := resample e line out.2 w (natOf e.output.outw) 0 w.scanL (rowAddr e first) c.mem
  { hsync := hsync
    ccf := c.ccf.set bucket row
    eqs := out.1
    prevE := w.prevE
    lb := out.2
    mem := duplicateRows e first (natOf (bandEnd e line)) m }

/-- One active line (R219, R220): a line whose band begins past the output is skipped whole. -/
def demodLine (e : Scan) (line : Nat) (c : LineCarry) : LineCarry :=
  if e.output.outh.toInt ≤ (bandBegin e line).toInt then c else demodLineBody e line c

/-- Step 4 (R219). -/
def demodLines (e : Scan) (c : LineCarry) : LineCarry := forRange topLine botLine c (demodLine e)

/-! ## The command -/

/-- `huesn`, `huecs` before the shift by 11 (R213). -/
def hueRotation (hue : Word) : Word × Word := sincos14 (degrees (tmod hue 360 + 33))

/-- What DEMODULATE reads of the state it finds (R210): not the settings bank, `white_point`, the IIR instances,
the old `inp` or the stage memory of the equalizers; the output region only when `blend = 1` (R246). -/
def demodInput (noise : Word) (s : State) : DemodInput :=
  { cfg := s.cfg
    noise := noise
    analog := s.analog
    ccf := s.ccf
    hsync := s.hsync
    vsync := s.vsync
    rn := s.rn
    controls := [s.monitor.hue, s.monitor.saturation, s.monitor.brightness, s.monitor.contrast, s.monitor.blackPoint]
    scanlines := s.monitor.scanlines
    blend := s.monitor.blend
    output := [s.output.outw, s.output.outh, s.output.format, s.output.base]
    coefficients := [s.eqY, s.eqI, s.eqQ].flatMap fun q => [q.lf, q.hf, q.g0, q.g1, q.g2]
    old := if s.monitor.blend then
        window s.mem s.output.base.toNat (regionBytes s.output.outw s.output.outh (bpp4fmt s.output.format))
      else [] }

/-- The constants of the line loop (R213 to R218): `s` is the state after steps 1 and 2, `start` what the command
started from. -/
def scanOf (start : DemodInput) (s : State) (f : PixelFormat) (noise : Word) (field : Bool) : Scan :=
  { cfg := s.cfg
    inp := s.inp
    vsync := s.vsync
    monitor := s.monitor
    output := s.output
    format := f
    bright := s.monitor.brightness - (blackLevel + s.monitor.blackPoint)
    huesn := asr (hueRotation s.monitor.hue).1 11
    huecs := asr (hueRotation s.monitor.hue).2 11
    fieldOff := fieldOff s.output.outh field
    maxE := maxEnergy s.cfg noise
    start := start }

/-- The line buffer at the start of a DEMODULATE: `AV_LEN + 1` entries, all 0 (R235). -/
def emptyLine (c : Config) : Array Yiq := Array.replicate (avLen c + 1) { y := 0, i := 0, q := 0 }

/-- What the line loop starts with (R218, R235). -/
def carryOf (s : State) : LineCarry :=
  { hsync := s.hsync
    ccf := s.ccf
    eqs := { y := s.eqY, i := s.eqI, q := s.eqQ }
    prevE := 2048
    lb := emptyLine s.cfg
    mem := s.mem }

/-- Step 1 on the state (R212). -/
def noiseState (noise : Word) (s : State) : State :=
  let noisy := addNoise s.cfg noise s.analog (s.rn, s.inp)
  { s with rn := noisy.1, inp := noisy.2 }

/-- The state after the line loop has ended with `done` (R210, R219). -/
def scanDone (done : LineCarry) (s : State) : State :=
  { s with
    hsync := done.hsync
    ccf := done.ccf
    eqY := done.eqs.y
    eqI := done.eqs.i
    eqQ := done.eqs.q
    mem := done.mem }

/-- Step 4 on the state after steps 1 and 2 (R219). -/
def scanState (start : DemodInput) (f : PixelFormat) (noise : Word) (field : Bool) (s : State) : State :=
  scanDone (demodLines (scanOf start s f noise field) (carryOf s)) s

/-- Steps 1 to 4 (R212 to R242). -/
def demodulateField (f : PixelFormat) (noise : Word) (s : State) : State :=
  let start := demodInput noise s
  let s := noiseState noise s
  let hit := vsyncHit s.cfg s.inp s.vsync
  scanState start f noise (fieldOf s.cfg hit) { s with vsync := vsyncAfter s.cfg s.vsync hit }

/-- The bytes of the output region (R88). -/
def outputBytes (s : State) (f : PixelFormat) : Nat := regionBytes s.output.outw s.output.outh f.bytes

/-- DEMODULATE (R210, R211). -/
def execDemodulate (noise : Word) (s : State) : Result :=
  if needsInit s then raiseFault .notInitialized s
  else if noise.toInt < 0 then raiseFault .illegalOperand s
  else
    match pixelFormat? s.output.format with
    | none => respondOk 0 0 s
    | some f =>
      if !admits s.writable s.output.base.toNat (outputBytes s f) then raiseFault .memFault s
      else if !admits s.readable s.output.base.toNat (outputBytes s f) then raiseFault .memFault s
      else respondOk 0 0 (demodulateField f noise s)

end Sys2Proof.Machine
end

