-- ==== Sys2Proof/Machine/Lifecycle.lean ====
section
/-! DEFINITION. INIT, RESIZE and RESET (R260 to R265). -/

namespace Sys2Proof.Machine

/-- `kHz2L(k) = tdiv(HRES * (k * 100), L_FREQ)` (R262). -/
def kHz2L (c : Config) (k : Word) : Word := tdiv (wordOf (hres c) * (k * 100)) lFreq

/-- EQ_INIT of one equalizer with its configured parameters (R262). -/
def eqSetup (c : Config) (p : EqParams) : Equalizer :=
  eqInit (kHz2L c p.floKhz) (kHz2L c p.fhiKhz) (wordOf (hres c)) p.gLo p.gMid p.gHi

/-- The six monitor defaults of RESET; `scanlines` and `blend` keep their values (R265). -/
def monitorDefaults (m : Monitor) : Monitor :=
  { m with hue := 0, saturation := 10, brightness := 0, contrast := 180, blackPoint := 0, whitePoint := 100 }

/-- The state change of RESET (R265). -/
def resetMonitor (s : State) : State :=
  { s with monitor := monitorDefaults s.monitor, hsync := 0, vsync := 0 }

/-- "zero the entire struct" (R261): the settings bank, the IIR instances and `fault` are not in it. -/
def zeroCrt (s : State) : State :=
  { s with
    analog := zeroBuffer s.cfg
    inp := zeroBuffer s.cfg
    ccf := zeroCcf s.cfg
    hsync := 0
    vsync := 0
    rn := 0
    monitor := .zero
    output := .zero }

/-- The output parameters of INIT and RESIZE (R261, R264). -/
def setOutput (w h f base : Word) (s : State) : State :=
  { s with output := { outw := w, outh := h, format := f, base := base } }

/-- The equalizers, `rn` and `initialized` of INIT (R261, R262). -/
def finishInit (s : State) : State :=
  { s with
    rn := 194
    eqY := eqSetup s.cfg s.cfg.eqY
    eqI := eqSetup s.cfg s.cfg.eqI
    eqQ := eqSetup s.cfg s.cfg.eqQ
    initialized := true }

/-- The state change of INIT (R261): zero, set the output, reset, seed `rn`, set up the equalizers. -/
def initCrt (w h f base : Word) (s : State) : State :=
  finishInit (resetMonitor (setOutput w h f base (zeroCrt s)))

/-- INIT (R261). -/
def execInit (w h f base : Word) (s : State) : Result :=
  if descriptorOk w h f base then respondOk 0 0 (initCrt w h f base s)
  else raiseFault .illegalOperand s

/-- RESIZE (R264). -/
def execResize (w h f base : Word) (s : State) : Result :=
  if needsInit s then raiseFault .notInitialized s
  else if descriptorOk w h f base then respondOk 0 0 (setOutput w h f base s)
  else raiseFault .illegalOperand s

/-- RESET (R265). -/
def execReset (s : State) : Result :=
  if needsInit s then raiseFault .notInitialized s
  else respondOk 0 0 (resetMonitor s)

end Sys2Proof.Machine
end

