-- ==== Sys2Proof/Machine/Modulate.lean ====
section
/-! DEFINITION. MODULATE (R180 to R207). The steps are those of R182, one definition a rule. -/

namespace Sys2Proof.Machine

/-! ## The destination rectangle -/

/-- Size and place of the destination rectangle (R185, R187). -/
structure DestRect where
  destw : Word
  desth : Word
  xo : Word
  yo : Word
  deriving DecidableEq, Repr

/-- `destw` (R185) -/
def destWidth (c : Config) (t : Settings) : Word :=
  if t.raw then smin t.w (wordOf (avLen c)) else asr (wordOf (avLen c) * 55500) 16

/-- `desth` (R185) -/
def destHeight (t : Settings) : Word :=
  if t.raw then smin t.h (wordOf activeLines) else asr (wordOf activeLines * 63500) 16

/-- `xo` (R187), rounded down to a multiple of `N` -/
def destX (c : Config) (t : Settings) : Word :=
  let xo := wordOf (avBeg c) + t.xoffset + tdiv (wordOf (avLen c) - destWidth c t) 2
  xo - posmod xo (wordOf ccSamples)

/-- `yo` (R187) -/
def destY (t : Settings) : Word :=
  wordOf topLine + t.yoffset + tdiv (wordOf activeLines - destHeight t) 2

/-- The rectangle MODULATE paints (R185, R187). -/
def destRect (c : Config) (t : Settings) : DestRect :=
  { destw := destWidth c t, desth := destHeight t, xo := destX c t, yo := destY t }

/-! ## Entry checks -/

/-- `-65536 <= v <= 65536` (R186) -/
def offsetOk (v : Word) : Bool := decide (-65536 ≤ v.toInt) && decide (v.toInt ≤ 65536)

/-- The third check of R186: the rectangle stays on its lines. -/
def columnsOk (c : Config) (r : DestRect) : Bool :=
  decide (0 ≤ r.xo.toInt) && decide ((r.xo + r.destw).toInt ≤ hres c)

/-- The fourth check of R186: the rectangle stays in the field. -/
def rowsOk (r : DestRect) : Bool := decide (0 ≤ r.yo.toInt) && decide ((r.yo + r.desth).toInt ≤ vres)

/-- The entry checks of R186, in its order: the cause of the first that fails. -/
def modulateCheck (s : State) (bpp : Nat) : Option Cause :=
  let t := s.settings
  let r := destRect s.cfg t
  let len := regionBytes t.w t.h bpp
  if !(dimOk t.w && dimOk t.h) then some .illegalOperand
  else if !(offsetOk t.xoffset && offsetOk t.yoffset) then some .illegalOperand
  else if !columnsOk s.cfg r then some .illegalOperand
  else if !rowsOk r then some .illegalOperand
  else if addressSpace < t.data.toNat + len then some .memFault
  else if !admits s.readable t.data.toNat len then some .memFault
  else none

/-! ## Step 1 -/

/-- Step 1 (R183): the three low-passes, once per settings bank. -/
def initIirs (s : State) : State :=
  if s.settings.iirsInit then s
  else
    { s with
      iirY := iirInit lFreq yFreq
      iirI := iirInit lFreq iFreq
      iirQ := iirInit lFreq qFreq
      settings := { s.settings with iirsInit := true } }

/-! ## Steps 3 and 4 -/

/-- `inv_phase` (R188) -/
def invPhase (t : Settings) : Bool := decide (t.field = t.frame)

/-- Whether the chroma of this field is inverted: `inv_phase = 1` and the checkered pattern (R188, R194). -/
def inverted (c : Config) (t : Settings) : Bool := invPhase t && decide (c.chroma = .checkered)

/-- `ph` (R188) -/
def phase (c : Config) (t : Settings) : Word := if inverted c t then -1 else 1

/-- One entry of a carrier table (R189): the sine of `hue + k*90 + offset` degrees at scale 32. -/
def carrierSine (hue offset : Word) (k : Nat) : Word :=
  asr (sincos14 (degrees (hue + wordOf k * 90 + offset))).1 10

/-- A carrier table (R189); all zero in monochrome. -/
def carrierTable (t : Settings) (offset : Word) : BurstRow :=
  if t.asColor then
    #v[carrierSine t.hue offset 0, carrierSine t.hue offset 1, carrierSine t.hue offset 2, carrierSine t.hue offset 3]
  else zeroRow

/-- `ccburst` (R189) -/
def ccburst (t : Settings) : BurstRow := carrierTable t 33

/-- `ccmodI` (R189) -/
def ccmodI (t : Settings) : BurstRow := carrierTable t 0

/-- `ccmodQ` (R189) -/
def ccmodQ (t : Settings) : BurstRow := carrierTable t (-90)

/-! ## Step 5: the blanking layout -/

/-- Lines 0 to 3 and 7 to 9 (R191). -/
def equalizingLine (c : Config) (base : Nat) (b : Buffer) : Buffer :=
  let b := fillLine base 0 (pct c 4) syncLevel b
  let b := fillLine base (pct c 4) (pct c 50) blankLevel b
  let b := fillLine base (pct c 50) (pct c 54) syncLevel b
  fillLine base (pct c 54) (pct c 100) blankLevel b

/-- `offs[0]`, the one offset that depends on the field parity (R192). -/
def vsyncFirst (field : Bool) : Nat := if field then 4 else 46

/-- Lines 4 to 6 (R192). -/
def vsyncLine (c : Config) (field : Bool) (base : Nat) (b : Buffer) : Buffer :=
  let b := fillLine base 0 (pct c (vsyncFirst field)) syncLevel b
  let b := fillLine base (pct c (vsyncFirst field)) (pct c 50) blankLevel b
  let b := fillLine base (pct c 50) (pct c 96) syncLevel b
  fillLine base (pct c 96) (pct c 100) blankLevel b

/-- Lines 10 to 261, all but the burst (R193). -/
def bodyLine (c : Config) (n base : Nat) (b : Buffer) : Buffer :=
  let b := fillLine base 0 (syncBeg c) blankLevel b
  let b := fillLine base (syncBeg c) (bwBeg c) syncLevel b
  let b := fillLine base (bwBeg c) (avBeg c) blankLevel b
  if n < topLine ∨ botLine ≤ n then fillLine base (avBeg c) (hres c) blankLevel b else b

/-- The burst sample at position `t` of a line (R194). -/
def burstSample (c : Config) (t : Settings) (table : BurstRow) (pos : Nat) : Word :=
  let k := if inverted c t then pos + ccSamples / 2 else pos
  asr (blankLevel + rowAt table k * burstLevel) 5

/-- The burst of one line and what it leaves in `iccf` (R194). -/
def burstLine (c : Config) (t : Settings) (table : BurstRow) (base : Nat) (acc : Buffer × BurstRow) :
    Buffer × BurstRow :=
  forRange (cbBeg c) (cbBeg c + burstLen) acc fun pos (b, iccf) =>
    (putSample b (base + pos) (burstSample c t table pos), rowSet iccf pos (burstSample c t table pos))

/-- Whether a line carries a burst (R191 to R193). -/
def hasBurst (n : Nat) : Bool := decide (10 ≤ n)

/-- Line `n` of the blanking layout (R190 to R194). -/
def layoutLine (c : Config) (t : Settings) (table : BurstRow) (n : Nat) (acc : Buffer × BurstRow) :
    Buffer × BurstRow :=
  let base := n * hres c
  if n ≤ 3 ∨ (7 ≤ n ∧ n ≤ 9) then (equalizingLine c base acc.1, acc.2)
  else if n ≤ 6 then (vsyncLine c t.field base acc.1, acc.2)
  else burstLine c t table base (bodyLine c n base acc.1, acc.2)

/-- Step 5: all lines in order, and `iccf`, which every burst overwrites whole (R190, R195). -/
def layoutField (c : Config) (t : Settings) (b : Buffer) : Buffer × BurstRow :=
  forRange 0 vres (b, zeroRow) (layoutLine c t (ccburst t))

/-! ## Step 6: the picture -/

/-- RGB to YIQ (R198). -/
def rgbToYiq (p : Rgb) : Yiq :=
  { y := asr (19595 * p.r + 38470 * p.g + 7471 * p.b) 14
    i := asr (39059 * p.r - 18022 * p.g - 21103 * p.b) 14
    q := asr (13894 * p.r - 34275 * p.g + 20382 * p.b) 14 }

/-- The three low-passes (R51). -/
structure Iirs where
  y : Iir
  i : Iir
  q : Iir
  deriving DecidableEq, Repr

/-- IIR_STEP of each low-pass in the order Y, I, Q (R199). -/
def iirsStep (f : Iirs) (p : Yiq) : Iirs :=
  { y := iirStep f.y p.y, i := iirStep f.i p.i, q := iirStep f.q p.q }

/-- IIR_RESET of each low-pass (R196). -/
def iirsReset (f : Iirs) : Iirs := { y := iirReset f.y, i := iirReset f.i, q := iirReset f.q }

/-- What step 6 reads of the state: constant while it runs. -/
structure Paint where
  cfg : Config
  settings : Settings
  format : PixelFormat
  mem : Memory
  rect : DestRect
  blackPoint : Word
  whitePoint : Word

/-- Remodulation onto the subcarrier at column `x` (R199): the luma and the two chroma terms. -/
def remodulate (e : Paint) (f : Iirs) (x : Nat) : Yiq :=
  let xoff := natOf (posmod (wordOf x + e.rect.xo) (wordOf ccSamples))
  { y := f.y.h
    i := asr (f.i.h * phase e.cfg e.settings * rowAt (ccmodI e.settings) xoff) 4
    q := asr (f.q.h * phase e.cfg e.settings * rowAt (ccmodQ e.settings) xoff) 4 }

/-- The level of an active sample, clamped to `[0, 110]` (R200). -/
def ireLevel (blackPoint whitePoint : Word) (p : Yiq) : Word :=
  let ire := blackLevel + blackPoint
  clamp (ire + asr ((p.y + p.i + p.q) * tdiv (whiteLevel * whitePoint) 100) 10) 0 110

/-- The source row of destination row `y` (R196), clamped to the last row of the image. -/
def sourceRow (t : Settings) (desth : Word) (y : Nat) : Word :=
  let fieldOffset := tdiv (tdiv (bit t.field * t.h + desth) desth) 2
  let sy := tdiv (wordOf y * t.h) desth + fieldOffset
  if t.h.toInt ≤ sy.toInt then t.h - 1 else sy

/-- The source column of destination column `x` (R197). -/
def sourceColumn (t : Settings) (destw : Word) (x : Nat) : Word := tdiv (wordOf x * t.w) destw

/-- The address of the source pixel in row `sy`, column `cx` (R87, R197). -/
def sourceAddr (t : Settings) (bpp sy cx : Nat) : Nat := t.data.toNat + (sy * natOf t.w + cx) * bpp

/-- The index of `analog` that column `x` of row `y` of the rectangle paints (R200). -/
def paintIndex (c : Config) (r : DestRect) (x y : Nat) : Nat := (x + natOf r.xo) + (y + natOf r.yo) * hres c

/-- One destination sample (R197 to R200): `row` is the source row's bytes. -/
def paintPixel (e : Paint) (row : Memory) (sy y x : Nat) (acc : Buffer × Iirs) : Buffer × Iirs :=
  let cx := natOf (sourceColumn e.settings e.rect.destw x)
  let p := rgbToYiq (readPixel row e.format (sourceAddr e.settings e.format.bytes sy cx))
  let f := iirsStep acc.2 p
  (putSample acc.1 (paintIndex e.cfg e.rect x y) (ireLevel e.blackPoint e.whitePoint (remodulate e f x)), f)

/-- The bytes of a source row (R87). -/
def sourceRowBytes (e : Paint) (sy : Nat) : Memory :=
  window e.mem (sourceAddr e.settings e.format.bytes sy 0) (natOf e.settings.w * e.format.bytes)

/-- One destination row (R196, R201). -/
def paintRow (e : Paint) (y : Nat) (acc : Buffer × Iirs) : Buffer × Iirs :=
  let sy := natOf (sourceRow e.settings e.rect.desth y)
  let row := sourceRowBytes e sy
  forRange 0 (natOf e.rect.destw) (acc.1, iirsReset acc.2) (paintPixel e row sy y)

/-- Step 6: all destination rows (R196). -/
def paintRows (e : Paint) (acc : Buffer × Iirs) : Buffer × Iirs :=
  forRange 0 (natOf e.rect.desth) acc (paintRow e)

/-! ## The command -/

/-- Step 7 (R206): every row of `ccf` takes `iccf[k] << 7`. -/
def seedCcf (c : Config) (iccf : BurstRow) : List BurstRow :=
  List.replicate (ccVper c) (iccf.map fun v => shl v 7)

/-- The constants of step 6 for the state after step 1. -/
def paintOf (s : State) (f : PixelFormat) : Paint :=
  { cfg := s.cfg, settings := s.settings, format := f, mem := s.mem, rect := destRect s.cfg s.settings
    blackPoint := s.monitor.blackPoint, whitePoint := s.monitor.whitePoint }

/-- Steps 2 to 7 on the state after step 1 (R182). -/
def modulateField (f : PixelFormat) (s : State) : State :=
  let field := layoutField s.cfg s.settings s.analog
  let painted := paintRows (paintOf s f) (field.1, { y := s.iirY, i := s.iirI, q := s.iirQ })
  { s with
    analog := painted.1
    iirY := painted.2.y
    iirI := painted.2.i
    iirQ := painted.2.q
    ccf := seedCcf s.cfg field.2 }

/-- MODULATE (R180, R182). -/
def execModulate (s : State) : Result :=
  if needsInit s then raiseFault .notInitialized s
  else
    match pixelFormat? s.settings.format with
    | none => respondOk 0 0 (initIirs s)
    | some f =>
      match modulateCheck s f.bytes with
      | some cause => raiseFault cause s
      | none => respondOk 0 0 (modulateField f (initIirs s))

end Sys2Proof.Machine
end

