-- ==== Sys2Proof/Machine/Query.lean ====
section
/-! DEFINITION. The two pure commands, BPP4FMT (R267) and SINCOS14 (R140). -/

namespace Sys2Proof.Machine

/-- BPP4FMT (R267): reads and writes no state. -/
def execBpp4fmt (format : Word) (s : State) : Result := respondOk (wordOf (bpp4fmt format)) 0 s

/-- SINCOS14 (R140): reads and writes no state. -/
def execSincos14 (angle : Word) (s : State) : Result := respondOk (sincos14 angle).1 (sincos14 angle).2 s

end Sys2Proof.Machine
end

