-- ==== Sys2Proof/Syntax.lean ====
section
/-! DEFINITION. The nine commands (R115), one constructor for each row of spec/opcode_table.json. -/

namespace Sys2Proof

/-- A command with its operands (R112, R113, R115). Operand words are raw 32-bit words; each meaning reads
them signed or unsigned as R112 says. `reg` is the control-register number of the header (R111), a number
and not a register: an unimplemented number is a command that faults (R270, R271), not an illegal encoding. -/
inductive Instr where
  /-- INIT, opcode 0x01, format W4 (R261) -/
  | init (outw outh outFormat outBase : Word)
  /-- RESIZE, opcode 0x02, format W4 (R264) -/
  | resize (outw outh outFormat outBase : Word)
  /-- RESET, opcode 0x03, format Z (R265) -/
  | reset
  /-- MODULATE, opcode 0x04, format Z (R180) -/
  | modulate
  /-- DEMODULATE, opcode 0x05, format W1 (R210) -/
  | demodulate (noise : Word)
  /-- BPP4FMT, opcode 0x06, format W1 (R267) -/
  | bpp4fmt (format : Word)
  /-- SINCOS14, opcode 0x07, format W1 (R140) -/
  | sincos14 (angle : Word)
  /-- SETCTL, opcode 0x08, format RW (R270) -/
  | setctl (reg : Nat) (value : Word)
  /-- GETCTL, opcode 0x09, format R (R271) -/
  | getctl (reg : Nat)
  deriving DecidableEq, Repr

/-- The five formats of R113. -/
inductive Format where
  /-- one word: opcode -/
  | z
  /-- one word: opcode, reg -/
  | r
  /-- two words: opcode; one operand -/
  | w1
  /-- two words: opcode, reg; one operand -/
  | rw
  /-- five words: opcode; four operands -/
  | w4
  deriving DecidableEq, Repr

/-- How many operand words follow the header (R113). -/
def Format.operands : Format → Nat
  | .z => 0
  | .r => 0
  | .w1 => 1
  | .rw => 1
  | .w4 => 4

/-- Whether `imm24[7:0]` is a control-register number (R111). -/
def Format.hasReg : Format → Bool
  | .z => false
  | .r => true
  | .w1 => false
  | .rw => true
  | .w4 => false

/-- The format of each command (R113, R115). -/
def Instr.format : Instr → Format
  | .init _ _ _ _ => .w4
  | .resize _ _ _ _ => .w4
  | .reset => .z
  | .modulate => .z
  | .demodulate _ => .w1
  | .bpp4fmt _ => .w1
  | .sincos14 _ => .w1
  | .setctl _ _ => .rw
  | .getctl _ => .r

end Sys2Proof
end

