-- ==== Sys2Proof/Machine/Dispatch.lean ====
section
/-! DEFINITION. One arm for each command (R115): the command's own meaning. The words have been consumed and
the block is not faulted when `exec` runs (R117, Machine/Port.lean). -/

namespace Sys2Proof.Machine

def exec (i : Instr) (s : State) : Host.Outcome State Fault Refusal :=
  match i with
  | .init w h f b => Sys2Proof.Machine.execInit w h f b s
  | .resize w h f b => Sys2Proof.Machine.execResize w h f b s
  | .reset => Sys2Proof.Machine.execReset s
  | .modulate => Sys2Proof.Machine.execModulate s
  | .demodulate noise => Sys2Proof.Machine.execDemodulate noise s
  | .bpp4fmt format => Sys2Proof.Machine.execBpp4fmt format s
  | .sincos14 angle => Sys2Proof.Machine.execSincos14 angle s
  | .setctl reg value => Sys2Proof.Machine.execSetctl reg value s
  | .getctl reg => Sys2Proof.Machine.execGetctl reg s

end Sys2Proof.Machine
end

