-- ==== Sys2Proof/WellFormed.lean ====
section
/-! DEFINITION. Well-formed commands and configurations, as Bool checks. -/

namespace Sys2Proof

/-- A register number fits the 8-bit field `reg` of the header (R111). -/
def regFits (reg : Nat) : Bool := decide (reg < 256)

/-- A command the header and operand words can carry. Every operand word is full width (R112), so the only
check is that of the `reg` field. -/
def Instr.wf : Instr → Bool
  | .init _ _ _ _ => true
  | .resize _ _ _ _ => true
  | .reset => true
  | .modulate => true
  | .demodulate _ => true
  | .bpp4fmt _ => true
  | .sincos14 _ => true
  | .setctl reg _ => regFits reg
  | .getctl reg => regFits reg

/-- A sync window is a positive 32-bit integer (R18, R22). -/
def windowOk (w : Nat) : Bool := decide (0 < w) && decide (w < 2 ^ 31)

/-- A sync threshold is a positive 32-bit integer (R18, R22). -/
def threshOk (t : Word) : Bool := decide (0 < t.toInt)

/-- The configurations R18 allows: "each a positive integer". -/
def Config.wf (c : Config) : Bool :=
  windowOk c.hsyncWindow && windowOk c.vsyncWindow && threshOk c.hsyncThresh && threshOk c.vsyncThresh

end Sys2Proof
end

