-- ==== Sys2Proof/Decode.lean ====
section
/-! DEFINITION. Decoding the command stream (R110 to R119) and encoding into it. -/

namespace Sys2Proof

/-- Why the words at the port are not a command. -/
inductive DecodeError where
  /-- No header word has been presented. -/
  | noHeader
  /-- The opcode is not 0x01 to 0x09 (R117, R118). -/
  | illegalOpcode
  /-- Reserved header bits are not zero (R117, R118). -/
  | reservedBits
  /-- Operand words have not been presented yet (R119). -/
  | operandsMissing
  deriving DecidableEq, Repr

/-- `hdr[31:24]` (R111). -/
def opcodeOf (hdr : Word) : Nat := hdr.toNat / 2 ^ 24

/-- `hdr[23:0]` (R111). -/
def imm24Of (hdr : Word) : Nat := hdr.toNat % 2 ^ 24

/-- `imm24[7:0]` (R111). -/
def regOf (hdr : Word) : Nat := hdr.toNat % 2 ^ 8

/-- The format of an opcode, where it is one of the nine (R115). -/
def formatOf : Nat → Option Format
  | 0x01 => some .w4
  | 0x02 => some .w4
  | 0x03 => some .z
  | 0x04 => some .z
  | 0x05 => some .w1
  | 0x06 => some .w1
  | 0x07 => some .w1
  | 0x08 => some .rw
  | 0x09 => some .r
  | _ => none

/-- Whether the reserved bits of the header are zero: `hdr[23:0]` in formats Z, W1 and W4, `hdr[23:8]` in
formats R and RW (R111, R117). -/
def reservedZero (f : Format) (hdr : Word) : Bool :=
  if f.hasReg then decide (imm24Of hdr / 2 ^ 8 = 0) else decide (imm24Of hdr = 0)

/-- Length of a command in words, a function of the opcode alone; 1 for an illegal opcode (R114). -/
def commandLength (hdr : Word) : Nat :=
  match formatOf (opcodeOf hdr) with
  | some f => 1 + f.operands
  | none => 1

/-- Reading the operand words of a legal header (R112, R113, R115). -/
def decodeOperands (op reg : Nat) (ws : List Word) : Except DecodeError (Instr × List Word) :=
  match op, ws with
  | 0x01, w :: h :: f :: b :: rest => .ok (.init w h f b, rest)
  | 0x02, w :: h :: f :: b :: rest => .ok (.resize w h f b, rest)
  | 0x03, rest => .ok (.reset, rest)
  | 0x04, rest => .ok (.modulate, rest)
  | 0x05, noise :: rest => .ok (.demodulate noise, rest)
  | 0x06, format :: rest => .ok (.bpp4fmt format, rest)
  | 0x07, angle :: rest => .ok (.sincos14 angle, rest)
  | 0x08, value :: rest => .ok (.setctl reg value, rest)
  | 0x09, rest => .ok (.getctl reg, rest)
  | _, _ => .error .operandsMissing

/-- The decoding procedure of R117 on the words presented at the port: the command and the words after it.
(The test `fault != 0` that R117 puts first is made by the port, Machine/Port.lean.) -/
def decode : List Word → Except DecodeError (Instr × List Word)
  | [] => .error .noHeader
  | hdr :: ws =>
    match formatOf (opcodeOf hdr) with
    | none => .error .illegalOpcode
    | some f =>
      if reservedZero f hdr then decodeOperands (opcodeOf hdr) (regOf hdr) ws
      else .error .reservedBits

/-- The header word of an opcode and a register field (R111). -/
def header (op reg : Nat) : Word := BitVec.ofNat 32 (op * 2 ^ 24 + reg % 2 ^ 8)

/-- The words of a command (R111, R112, R115). -/
def encode : Instr → List Word
  | .init w h f b => [header 0x01 0, w, h, f, b]
  | .resize w h f b => [header 0x02 0, w, h, f, b]
  | .reset => [header 0x03 0]
  | .modulate => [header 0x04 0]
  | .demodulate noise => [header 0x05 0, noise]
  | .bpp4fmt format => [header 0x06 0, format]
  | .sincos14 angle => [header 0x07 0, angle]
  | .setctl reg value => [header 0x08 reg, value]
  | .getctl reg => [header 0x09 reg]

/-- The words of a command whose bits are numbered as spec/opcode_table.json numbers them: word `k` is bits
`32k + 31 .. 32k`, every bit from `nbits` on is 0, five words (the longest command). A command word is an
abstract 32-bit value (R110): there is no byte order in it (assumption 19). -/
def tableWords (nbits w : Nat) : List Word :=
  [0, 1, 2, 3, 4].map fun k => BitVec.ofNat 32 (w % 2 ^ nbits / 2 ^ (32 * k))

/-- Those of `tableWords` that belong to the command: as many as its opcode says (R114). -/
def commandWords (nbits w : Nat) : List Word :=
  match tableWords nbits w with
  | [] => []
  | hdr :: ws => (hdr :: ws).take (commandLength hdr)

/-- The command the decoder reads from the bits `w`, numbered as in `tableWords`. -/
def decodeTableWord (nbits w : Nat) : Option Instr :=
  match decode (tableWords nbits w) with
  | .ok (i, _) => some i
  | .error _ => none

end Sys2Proof
end

