-- ==== Sys2Proof/Machine/Port.lean ====
section
/-! DEFINITION. The command port: what the block does next with the words presented (R110, R117, R284) and
with the reset input (R300). -/

namespace Sys2Proof.Machine

/-- What the port gives the step. -/
inductive Accept where
  /-- A command to run, on the state with its words consumed. -/
  | run (i : Instr) (s : State)
  /-- The step is over: power-on reset, a refused word, or a decode fault. -/
  | done (s : State)
  /-- The block waits for the host. -/
  | wait (f : Fault)
  deriving DecidableEq, Repr

/-- The state with the words `rest` left at the port. -/
def consume (s : State) (rest : List Word) : State := { s with port := rest }

/-- A faulted block (R284): each word is answered with the stored cause, no word is decoded. -/
def acceptFaulted (s : State) : Accept :=
  match s.port with
  | [] => .wait .portEmpty
  | _ :: rest => .done (refuseFaulted (consume s rest))

/-- A block without a fault (R117): a header that is no command raises ILLEGAL_COMMAND and leaves the words
after it; a command whose operand words are missing waits for them (R119). -/
def acceptCommand (s : State) : Accept :=
  match decode s.port with
  | .ok (i, rest) => .run i (consume s rest)
  | .error .noHeader => .wait .portEmpty
  | .error .operandsMissing => .wait .operandsMissing
  | .error .illegalOpcode => .done (faulted .illegalCommand (consume s s.port.tail))
  | .error .reservedBits => .done (faulted .illegalCommand (consume s s.port.tail))

/-- The reset input first (R300), then the fault register (R117, R287), then the command. -/
def accept (s : State) : Accept :=
  if s.resetInput then .done (powerOnReset s)
  else if s.fault = 0 then acceptCommand s
  else acceptFaulted s

/-- The words of a command, with bits numbered as spec/opcode_table.json numbers them, put at the port before
the words already there. -/
def presentTableWord (s : State) (nbits w : Nat) : State := consume s (commandWords nbits w ++ s.port)

end Sys2Proof.Machine
end

