-- ==== Sys2Proof/Machine/Step.lean ====
section
/-! DEFINITION. The step of the block: one command, one refused word, or one power-on reset (R26, R110). -/

namespace Sys2Proof.Machine

/-- One step (R26, R110, R117). -/
def step (s : State) : Host.Outcome State Fault Refusal :=
  match accept s with
  | .run i s => exec i s
  | .done s => .next s
  | .wait f => .fault f

/-- The state with a command's words presented at the port, so that the next step runs it (assumption 7). -/
def State.withFetchWord (s : State) (nbits w : Nat) : State := presentTableWord s nbits w

end Sys2Proof.Machine
end

