-- ==== Sys2Proof/Safety.lean ====
section
/-! DEFINITION. What a sound state is: the invariant every step keeps (R41 to R55, R246), for claims that must
hold in every state a run can reach. -/

namespace Sys2Proof.Machine

/-- Every element of a buffer, read as a signed integer, lies in `[lo, hi]`. -/
def SamplesIn (b : Buffer) (lo hi : Int) : Prop := ∀ v ∈ b, lo ≤ v.toInt ∧ v.toInt ≤ hi

/-- A field buffer has `SIZE` elements (R11, R41). -/
def FieldSized (c : Config) (b : Buffer) : Prop := b.size = fieldSize c

/-- The output descriptor of an initialized block: `1 <= outw, outh <= MAX_DIM` (R48) and a region inside the
address space (R89, R211). -/
def DescriptorSound (o : OutDesc) : Prop := descriptorOk o.outw o.outh o.format o.base = true

/-- The invariant: buffer shapes and ranges (R41, R42, R205, R246), `CC_VPER` rows of `ccf` (R43), the sync seeds
in range (R44), the descriptor of an initialized block (R48), a cause the block can produce (R281), host memory
in canonical form. -/
structure State.Inv (s : State) : Prop where
  analogSize : FieldSized s.cfg s.analog
  inpSize : FieldSized s.cfg s.inp
  analogRange : SamplesIn s.analog (-40) 110
  inpRange : SamplesIn s.inp (-127) 127
  ccfRows : s.ccf.length = ccVper s.cfg
  hsyncRange : 0 ≤ s.hsync.toInt ∧ s.hsync.toInt < hres s.cfg
  vsyncRange : 0 ≤ s.vsync.toInt ∧ s.vsync.toInt < vres
  descriptor : s.initialized = true → DescriptorSound s.output
  cause : s.fault.toNat ≤ 5
  memory : memoryWf s.mem = true

/-- A step that ends in a next state without a fault of the block. -/
def StepsClean (s t : State) : Prop := step s = .next t ∧ t.fault = 0

end Sys2Proof.Machine
end

