-- ==== Sys2Proof/Certificates/Slice0/Obligations.lean ====
section
/-! DEFINITION. The statements for the provers. The helpers under `Sys2Proof.Claims` restate the spec's rules
over the integers, so that a statement does not only repeat the model's own word arithmetic. -/

namespace Sys2Proof.Claims

open Sys2Proof Sys2Proof.Machine

/-- The response record of a completed command (R116). -/
def okResponse (r0 r1 : Word) : Option Response := some { status := .ok, r0 := r0, r1 := r1 }

/-- What `raise Fault(cause)` leaves (R283): the cause register, the response, nothing else. -/
def faultedWith (code : BitVec 8) (s : State) : State :=
  { s with fault := code, response := some { status := .fault code, r0 := 0, r1 := 0 } }

/-- `wrap32` (R22) -/
def wrap32 (v : Int) : Int := Int.bmod v (2 ^ 32)

/-- `bpp4fmt` over the integers (R125). -/
def bytesPerPixel (f : Int) : Nat :=
  if f = 0 ∨ f = 1 then 3 else if 2 ≤ f ∧ f ≤ 5 then 4 else 0

/-- The R offset column of R84, by the code of R124. -/
def redOffset (f : Int) : Nat := [0, 2, 1, 0, 3, 2].getD f.toNat 0

/-- The G offset column of R84, by the code of R124. -/
def greenOffset (f : Int) : Nat := [1, 1, 2, 1, 2, 1].getD f.toNat 0

/-- The B offset column of R84, by the code of R124. -/
def blueOffset (f : Int) : Nat := [2, 0, 3, 2, 1, 0].getD f.toNat 0

/-- The checks of INIT and RESIZE over the integers (R261, R264). -/
def DescriptorFits (w h f base : Word) : Prop :=
  1 ≤ w.toInt ∧ w.toInt ≤ 32767 ∧ 1 ≤ h.toInt ∧ h.toInt ≤ 32767 ∧
    (base.toNat : Int) + w.toInt * h.toInt * bytesPerPixel f.toInt ≤ 2 ^ 32

/-- Every byte of a range may be accessed (R82), and exists (R80). -/
def Admitted (rs : List Region) (a n : Nat) : Prop :=
  a + n ≤ 2 ^ 32 ∧ ∀ x, a ≤ x → x < a + n → ∃ r ∈ rs, r.base ≤ x ∧ x < r.base + r.size

/-! ### Sine and cosine over the integers (R141 to R143) -/

/-- The eighteen entries of R141, by their closed form's values. -/
def sineTable : List Int :=
  [0, 3208, 6392, 9512, 12536, 15440, 18200, 20784, 23168, 25328, 27240, 28896, 30272, 31352, 32136, 32608, 32768, 32608]

/-- SINTAB (R142) for `0 <= n <= 4096`. -/
def sineFirstQuadrant (n : Int) : Int :=
  let a := sineTable.getD (n / 256).toNat 0
  let b := sineTable.getD (n / 256 + 1).toNat 0
  a + (b - a) * (n % 256) / 256

/-- `sincos14` (R143) for any integer angle. -/
def sineCosine (angle : Int) : Int × Int :=
  let n := angle % 16384
  let h := n % 8192
  let sc := if 4095 < h then (sineFirstQuadrant (8192 - h), -sineFirstQuadrant (h - 4096))
    else (sineFirstQuadrant h, sineFirstQuadrant (4096 - h))
  if 8191 < n then (-sc.1, -sc.2) else sc

/-! ### Control registers (R49) -/

/-- The numbers of R49's table. -/
def Implemented (c : Config) (reg : Nat) : Prop := reg ≤ 0x1B ∨ (0x20 ≤ reg ∧ reg < 0x20 + 4 * ccVper c)

/-- The RW rows of R49. -/
def Writable (reg : Nat) : Prop := reg ≤ 0x07 ∨ (0x10 ≤ reg ∧ reg ≤ 0x1B)

/-- The 1-bit rows of R49. -/
def OneBit (reg : Nat) : Prop := reg ∈ [0x06, 0x07, 0x14, 0x15, 0x16, 0x17, 0x1B]

/-- GETCTL of `reg` answers `v` and changes nothing else (R271). -/
def ReadsAs (s : State) (reg : Nat) (v : Word) : Prop :=
  exec (.getctl reg) s = .next { s with response := okResponse v 0 }

/-- Everything but the monitor controls, the settings bank and the response. -/
def SameButControls (s t : State) : Prop :=
  t = { s with monitor := t.monitor, settings := t.settings, response := t.response }

/-! ### MODULATE over the integers (R185 to R194) -/

/-- `destw` (R185) -/
def rectWidth (c : Config) (t : Settings) : Int :=
  if t.raw then min t.w.toInt (avLen c) else (avLen c : Int) * 55500 / 65536

/-- `desth` (R185) -/
def rectHeight (t : Settings) : Int := if t.raw then min t.h.toInt 240 else 240 * 63500 / 65536

/-- `xo` (R187) -/
def rectX (c : Config) (t : Settings) : Int :=
  let xo := (avBeg c : Int) + t.xoffset.toInt + ((avLen c : Int) - rectWidth c t).tdiv 2
  xo - xo % 4

/-- `yo` (R187) -/
def rectY (t : Settings) : Int := 21 + t.yoffset.toInt + (240 - rectHeight t).tdiv 2

/-- The four operand checks of R186. -/
def ModulateOperandsOk (c : Config) (t : Settings) : Prop :=
  1 ≤ t.w.toInt ∧ t.w.toInt ≤ 32767 ∧ 1 ≤ t.h.toInt ∧ t.h.toInt ≤ 32767 ∧
    -65536 ≤ t.xoffset.toInt ∧ t.xoffset.toInt ≤ 65536 ∧ -65536 ≤ t.yoffset.toInt ∧ t.yoffset.toInt ≤ 65536 ∧
    0 ≤ rectX c t ∧ rectX c t + rectWidth c t ≤ hres c ∧ 0 ≤ rectY t ∧ rectY t + rectHeight t ≤ 262

/-- Bytes of the source image (R87). -/
def sourceBytes (t : Settings) : Nat := (t.w.toInt * t.h.toInt).toNat * bytesPerPixel t.format.toInt

/-- When MODULATE lays out its field (R182, R186): initialized, a recognized format, all checks passed. -/
def ModulateReady (s : State) : Prop :=
  s.initialized = true ∧ bytesPerPixel s.settings.format.toInt ≠ 0 ∧ ModulateOperandsOk s.cfg s.settings ∧
    Admitted s.readable s.settings.data.toNat (sourceBytes s.settings)

/-- Whether sample `t` of line `n` lies in the destination rectangle (R200). -/
def InRect (c : Config) (set : Settings) (n t : Nat) : Prop :=
  rectX c set ≤ t ∧ t < rectX c set + rectWidth c set ∧ rectY set ≤ n ∧ n < rectY set + rectHeight set

/-- Whether the burst is inverted (R188, R194). -/
def burstInverted (c : Config) (t : Settings) : Prop := t.field = t.frame ∧ c.chroma = .checkered

/-- The burst sample of bucket `t mod 4` (R194, R195): `floor(ccburst[k] * 20 / 32)`. -/
noncomputable def burstValue (c : Config) (set : Settings) (t : Nat) : Int :=
  open Classical in
  (rowAt (ccburst set) (if burstInverted c set then t + 2 else t)).toInt * 20 / 32

/-- The value MODULATE's step 5 leaves at sample `t` of line `n` (R191 to R194); `none` where it writes nothing
(R202). -/
noncomputable def layoutValue (c : Config) (set : Settings) (n t : Nat) : Option Int :=
  if n ≤ 3 ∨ (7 ≤ n ∧ n ≤ 9) then
    some (if t < 4 * hres c / 100 then -40 else if t < 50 * hres c / 100 then 0
      else if t < 54 * hres c / 100 then -40 else 0)
  else if n ≤ 6 then
    some (if t < (if set.field then 4 else 46) * hres c / 100 then -40 else if t < 50 * hres c / 100 then 0
      else if t < 96 * hres c / 100 then -40 else 0)
  else if cbBeg c ≤ t ∧ t < cbBeg c + 40 then some (burstValue c set t)
  else if t < syncBeg c then some 0
  else if t < bwBeg c then some (-40)
  else if t < avBeg c then some 0
  else if n < 21 ∨ 261 ≤ n then some 0
  else none

/-- The source row of destination row `y` (R196). -/
def rowOfSource (t : Settings) (y : Nat) : Int :=
  let dh := rectHeight t
  let fieldOffset := ((if t.field then t.h.toInt else 0) + dh) / dh / 2
  min (t.h.toInt - 1) (y * t.h.toInt / dh + fieldOffset)

/-- The source column of destination column `x` (R197). -/
def columnOfSource (c : Config) (t : Settings) (x : Nat) : Int := x * t.w.toInt / rectWidth c t

/-- R198 over the integers, for the channel values `r`, `g`, `b`. -/
def yiqOf (r g b : Int) : Yiq :=
  { y := BitVec.ofInt 32 ((19595 * r + 38470 * g + 7471 * b) / 2 ^ 14)
    i := BitVec.ofInt 32 ((39059 * r - 18022 * g - 21103 * b) / 2 ^ 14)
    q := BitVec.ofInt 32 ((13894 * r - 34275 * g + 20382 * b) / 2 ^ 14) }

/-- The YIQ value of the source pixel of destination column `x`, row `y` (R84, R197, R198). -/
def sourceYiq (s : State) (y x : Nat) : Yiq :=
  let t := s.settings
  let f := t.format.toInt
  let a := t.data.toNat +
    ((rowOfSource t y).toNat * t.w.toInt.toNat + (columnOfSource s.cfg t x).toNat) * bytesPerPixel f
  yiqOf (readByte s.mem (a + redOffset f)).toNat (readByte s.mem (a + greenOffset f)).toNat
    (readByte s.mem (a + blueOffset f)).toNat

/-- The three low-passes after columns `0 .. n - 1` of row `y`, from zero history (R196, R199, R201). -/
def filteredRow (coeffs : Iirs) (s : State) (y : Nat) : Nat → Iirs
  | 0 => { y := { c := coeffs.y.c, h := 0 }, i := { c := coeffs.i.c, h := 0 }, q := { c := coeffs.q.c, h := 0 } }
  | n + 1 =>
    let f := filteredRow coeffs s y n
    let p := sourceYiq s y n
    { y := iirStep f.y p.y, i := iirStep f.i p.i, q := iirStep f.q p.q }

/-- The coefficients MODULATE filters with (R183): those of IIR_INIT on a fresh settings bank. -/
def modulateCoeffs (s : State) : Iirs :=
  if s.settings.iirsInit then { y := s.iirY, i := s.iirI, q := s.iirQ }
  else { y := { c := 1233, h := 0 }, i := { c := 574, h := 0 }, q := { c := 232, h := 0 } }

/-- The level of R199 and R200 at column `x`, from the filters after that column; `xo` is a multiple of 4, so the
carrier phase is `x mod 4`. -/
noncomputable def pictureLevel (s : State) (f : Iirs) (x : Nat) : Int :=
  open Classical in
  let ph : Int := if burstInverted s.cfg s.settings then -1 else 1
  let chroma := wrap32 (f.i.h.toInt * ph * (rowAt (ccmodI s.settings) x).toInt) / 2 ^ 4 +
    wrap32 (f.q.h.toInt * ph * (rowAt (ccmodQ s.settings) x).toInt) / 2 ^ 4
  let gain := (wrap32 (100 * s.monitor.whitePoint.toInt)).tdiv 100
  max 0 (min 110 (wrap32 (7 + s.monitor.blackPoint.toInt + wrap32 ((f.y.h.toInt + chroma) * gain) / 2 ^ 10)))

/-- The state MODULATE does not touch (R181). -/
def SameButModulated (s t : State) : Prop :=
  t = { s with analog := t.analog, ccf := t.ccf, iirY := t.iirY, iirI := t.iirI, iirQ := t.iirQ, settings := t.settings,
               response := t.response }

/-! ### DEMODULATE over the integers (R212 to R246) -/

/-- When DEMODULATE runs its steps (R211), with the descriptor INIT and RESIZE accept (R48). -/
def DemodulateReady (s : State) (noise : Word) : Prop :=
  s.initialized = true ∧ 0 ≤ noise.toInt ∧ bytesPerPixel s.output.format.toInt ≠ 0 ∧
    DescriptorFits s.output.outw s.output.outh s.output.format s.output.base ∧
    Admitted s.writable s.output.base.toNat
      ((s.output.outw.toInt * s.output.outh.toInt).toNat * bytesPerPixel s.output.format.toInt) ∧
    Admitted s.readable s.output.base.toNat
      ((s.output.outw.toInt * s.output.outh.toInt).toNat * bytesPerPixel s.output.format.toInt)

/-- The generator after `n` advances (R212). -/
def noiseSeed (rn : Nat) : Nat → Nat
  | 0 => rn
  | n + 1 => (214019 * noiseSeed rn n + 140327895) % 2 ^ 32

/-- The noisy sample of R212 over the integers, from the generator after its advance. -/
def noisyValue (noise : Int) (rn : Nat) (v : Int) : Int :=
  max (-127) (min 127 (v + Int.bmod ((((rn / 65536 % 256 : Nat) : Int) - 127) * noise) (2 ^ 32) / 256))

/-- The sum of samples `base .. base + j` (R214). -/
def sumThrough (inp : Buffer) (base : Nat) : Nat → Int
  | 0 => (sample inp base).toInt
  | j + 1 => sumThrough inp base j + (sample inp (base + (j + 1))).toInt

/-- The sum of the samples at `origin + first .. origin + first + n` (R221). -/
def sumFrom (e : Scan) (origin : Word) (first : Int) : Nat → Int
  | 0 => (e.input (origin + BitVec.ofInt 32 first)).toInt
  | n + 1 => sumFrom e origin first n + (e.input (origin + BitVec.ofInt 32 (first + (n + 1)))).toInt

/-- The coefficients of an equalizer (R52). -/
def SameCoefficients (f g : Equalizer) : Prop :=
  g.lf = f.lf ∧ g.hf = f.hf ∧ g.g0 = f.g0 ∧ g.g1 = f.g1 ∧ g.g2 = f.g2

/-- The field parity (R215, R216): on a hit at sample `j` whether `j` is past the line midpoint, on none
`SYNC_FAIL_SLEW`. -/
def oddField (c : Config) (hit : Option (Nat × Nat)) : Bool :=
  match hit with
  | some (_, j) => decide (hres c < 2 * j)
  | none => c.syncFailSlew

/-- The parity of the field the DEMODULATE from `s` to `t` found: its vertical search is over the noisy field, which
`t.inp` holds. -/
def fieldFound (s t : State) : Bool := oddField s.cfg (vsyncHit s.cfg t.inp s.vsync)

/-- `field_off` (R217) of the DEMODULATE from `s` to `t`. -/
def fieldOffset (s t : State) : Nat :=
  if fieldFound s t then (s.output.outh.toNat * 65536 / 240 + 32768) / 65536 / 2 else 0

/-! #### The burst and the lines (R219 to R229) -/

/-- `INP(i)` (R81) for an integer index. -/
def inputAt (c : Config) (inp : Buffer) (i : Int) : Word := sample inp (i % fieldSize c).toNat

/-- One update of an accumulator (R229). -/
def burstUpdate (acc v : Word) : Word := BitVec.ofInt 32 ((wrap32 (acc.toInt * 127)).tdiv 128 + v.toInt)

/-- Bucket `k` after the first `n` of its ten samples (R229): those at `base + t` for `t = CB_BEG .. CB_BEG + 39`
with `t mod 4 = k`, from the left. -/
def burstBucket (c : Config) (inp : Buffer) (base : Int) (k : Nat) (acc : Word) : Nat → Word
  | 0 => acc
  | n + 1 =>
    burstUpdate (burstBucket c inp base k acc n)
      (inputAt c inp (base + (cbBeg c + (k + 4 - cbBeg c % 4) % 4 + 4 * n : Nat)))

/-- `base` of R229: the start of the line's signal line, and `hsync` rounded down to a multiple of 4. -/
def burstStart (c : Config) (vsync hsync : Int) (line : Nat) : Int :=
  (line + vsync) % 262 * hres c + (hsync - hsync % 4)

/-- What the line loop does to `hsync` and `ccf` on one line (R220 to R229); `off` is the field offset. -/
def lineSync (e : Scan) (off line : Nat) (x : Word × List BurstRow) : Word × List BurstRow :=
  if e.output.outh.toNat ≤ (line - 21) * e.output.outh.toNat / 240 + off then x
  else
    let hsync := hsyncAfter e.cfg x.1 (hsyncHit e line x.1)
    let v := ((line + e.vsync.toInt + 3) % 262).toNat % ccVper e.cfg
    let row := x.2.getD v zeroRow
    let start := burstStart e.cfg e.vsync.toInt hsync.toInt line
    let bucket (k : Nat) : Word := burstBucket e.cfg e.inp start k (rowAt row k) 10
    (hsync, x.2.set v #v[bucket 0, bucket 1, bucket 2, bucket 3])

/-- `hsync` and `ccf` after the first `n` active lines (R219). -/
def linesSync (e : Scan) (off : Nat) (x : Word × List BurstRow) : Nat → Word × List BurstRow
  | 0 => x
  | n + 1 => lineSync e off (21 + n) (linesSync e off x n)

/-- What the searches of the DEMODULATE from `s` to `t` read: the noisy field and the vertical seed it leaves. -/
def searchScan (s t : State) : Scan :=
  { cfg := s.cfg, inp := t.inp, vsync := t.vsync, monitor := s.monitor, output := s.output, format := .rgb,
    bright := 0, huesn := 0, huecs := 0, fieldOff := 0, maxE := 0, start := demodInput 0 s }

/-! #### The picture of a line (R213, R225, R230 to R239) -/

/-- `bright` (R213) -/
def lineBright (m : Monitor) : Int := wrap32 (m.brightness.toInt - (7 + m.blackPoint.toInt))

/-- `huesn`, `huecs` (R213) -/
def hueSines (m : Monitor) : Int × Int :=
  let sc := sineCosine (((m.hue.toInt.tmod 360 + 33) * 8192).tdiv 180)
  (sc.1 / 2 ^ 11, sc.2 / 2 ^ 11)

/-- `pos` (R225) -/
def pictureStart (c : Config) (vsync hsync : Int) (line : Nat) : Int :=
  ((avBeg c : Int) + hsync - 3) % hres c + (line + vsync + 3) % 262 * hres c

/-- Element `k mod 4` of `wave` (R230, R231), from the row `ccr` of a line. -/
def waveOf (c : Config) (saturation : Int) (hue : Int × Int) (ccr : BurstRow) (align : Nat) (k : Nat) : Int :=
  let bucket (j : Nat) : Int := (rowAt ccr j).toInt
  let dci := wrap32 (bucket (align + 1) - bucket (align + 3))
  let dcq := wrap32 (bucket (align + 2) - bucket (align + 0))
  let w0 := wrap32 (wrap32 (dci * hue.2 - dcq * hue.1) / 2 ^ c.waveShift * saturation)
  let w1 := wrap32 (wrap32 (dcq * hue.2 + dci * hue.1) / 2 ^ c.waveShift * saturation)
  [w0, w1, wrap32 (-w0), wrap32 (-w1)].getD (k % 4) 0

/-- What step 4f decodes of a line: its samples `INP(pos + i)`, the brightness and the carrier. -/
structure LineSignal where
  signal : Nat → Int
  bright : Int
  wave : Nat → Int

/-- The signal of an output line, from its `hsync` and its row of `ccf` after the burst (R225, R230, R231). -/
def lineSignal (c : Config) (inp : Buffer) (vsync bright saturation : Int) (hue : Int × Int) (hsync : Int)
    (ccr : BurstRow) (line : Nat) : LineSignal :=
  { signal := fun i => (inputAt c inp (pictureStart c vsync hsync line + i)).toInt
    bright := bright
    wave := waveOf c saturation hue ccr (hsync % 4).toNat }

/-- An equalizer after the inputs `0 .. n - 1`, from EQ_RESET (R167, R234). -/
def equalizerFed (f : Equalizer) (input : Nat → Word) : Nat → Equalizer
  | 0 => { lf := f.lf, hf := f.hf, g0 := f.g0, g1 := f.g1, g2 := f.g2, fL0 := 0, fL1 := 0, fL2 := 0, fL3 := 0,
           fH0 := 0, fH1 := 0, fH2 := 0, fH3 := 0, h0 := 0, h1 := 0, h2 := 0 }
  | n + 1 => (eqRun (equalizerFed f input n) (input n)).1

/-- The equalizer's output for input `n`. -/
def equalizerOutput (f : Equalizer) (input : Nat → Word) (n : Nat) : Int :=
  (eqRun (equalizerFed f input n) (input n)).2.toInt

/-- The luma input of sample `first + n` (R236). -/
def lumaInput (l : LineSignal) (first n : Nat) : Word := BitVec.ofInt 32 (l.signal (first + n) + l.bright)

/-- The chroma input of sample `first + n` (R236): `tap` is 0 for I, 3 for Q. -/
def chromaInput (l : LineSignal) (tap first n : Nat) : Word :=
  BitVec.ofInt 32 (wrap32 (l.signal (first + n) * l.wave (first + n + tap)) / 2 ^ 9)

/-- The three equalizers after `n` samples of the line, from sample `first` on (R234, R236). -/
def equalizersFed (l : LineSignal) (q : Equalizers) (first n : Nat) : Equalizers :=
  { y := equalizerFed q.y (lumaInput l first) n
    i := equalizerFed q.i (chromaInput l 0 first) n
    q := equalizerFed q.q (chromaInput l 3 first) n }

/-- Entry `first + n` of the line buffer (R236). -/
def decodedEntry (l : LineSignal) (q : Equalizers) (first n : Nat) : Yiq :=
  { y := BitVec.ofInt 32 (equalizerOutput q.y (lumaInput l first) n * 2 ^ 4)
    i := BitVec.ofInt 32 (equalizerOutput q.i (chromaInput l 0 first) n / 2 ^ 3)
    q := BitVec.ofInt 32 (equalizerOutput q.q (chromaInput l 3 first) n / 2 ^ 3) }

/-- One channel of the pixel at position `p` between the buffer entries `a` and `b` (R238, R239), over the integers;
`ci` and `cq` are the channel's factors of I and Q. -/
def channelValue (contrast ci cq : Int) (a b : Yiq) (p : Int) : Int :=
  let right := p % 4096
  let left := 4095 - right
  let mix (u v : Word) (shift : Nat) : Int :=
    wrap32 (u.toInt * left) / 2 ^ shift + wrap32 (v.toInt * right) / 2 ^ shift
  let v := wrap32 (mix a.y b.y 2 + ci * mix a.i b.i 14 + cq * mix a.q b.q 14)
  max 0 (min 255 (wrap32 (v / 2 ^ 12 * contrast) / 2 ^ 8))

/-- The byte a pixel store leaves for a channel (R240): the new value, or with `blend` the sum of one half of it and
one half of the old byte, each rounded down. -/
def storedByte (blend : Bool) (new : Int) (old : Nat) : Nat :=
  if blend then new.toNat / 2 + old / 2 else new.toNat

/-- One channel of pixel `x` of active line `k` in the DEMODULATE from `s` to `t` with `DO_BLOOM = 0` (R233 to R239). -/
def plainPixel (s t : State) (ci cq : Int) (k x : Nat) : Int :=
  let c := s.cfg
  let after := linesSync (searchScan s t) (fieldOffset s t) (s.hsync, s.ccf) (k + 1)
  let vsync := t.vsync.toInt
  let ccr := after.2.getD (((21 + k + vsync + 3) % 262).toNat % ccVper c) zeroRow
  let l := lineSignal c t.inp vsync (lineBright s.monitor) s.monitor.saturation.toInt (hueSines s.monitor)
    after.1.toInt ccr (21 + k)
  let eqs : Equalizers := { y := s.eqY, i := s.eqI, q := s.eqQ }
  let p := x * (((avLen c : Int) - 1) * 4096 / s.output.outw.toInt)
  let i := (p / 4096).toNat
  channelValue s.monitor.contrast.toInt ci cq (decodedEntry l eqs 0 i) (decodedEntry l eqs 0 (i + 1)) p

/-- The byte at `offset` in pixel `x` of output row `r` after the first `n` active lines with `DO_BLOOM = 0`, for a row
with which some line's band begins (R220, R237, R240): each line whose band begins there stores its pixel over what
stands there. -/
def paintedByte (s t : State) (ci cq : Int) (offset r x : Nat) : Nat → Nat
  | 0 =>
    let pixel := s.output.base.toNat + (r * s.output.outw.toNat + x) * bytesPerPixel s.output.format.toInt
    (readByte s.mem (pixel + offset)).toNat
  | n + 1 =>
    let old := paintedByte s t ci cq offset r x n
    if n * s.output.outh.toNat / 240 + fieldOffset s t = r ∧ r < s.output.outh.toNat then
      storedByte s.monitor.blend (plainPixel s t ci cq n x) old
    else old

/-- Two states that agree on all DEMODULATE reads (R210): not on the settings bank, `white_point`, the IIR
instances, `inp`, the stage memory of the equalizers, or anything of the surroundings but host memory. -/
def SameReadByDemodulate (s1 s2 : State) : Prop :=
  s2.cfg = s1.cfg ∧ s2.analog = s1.analog ∧ s2.ccf = s1.ccf ∧ s2.hsync = s1.hsync ∧ s2.vsync = s1.vsync ∧
    s2.rn = s1.rn ∧ s2.monitor = { s1.monitor with whitePoint := s2.monitor.whitePoint } ∧ s2.output = s1.output ∧
    SameCoefficients s1.eqY s2.eqY ∧ SameCoefficients s1.eqI s2.eqI ∧ SameCoefficients s1.eqQ s2.eqQ ∧
    s2.mem = s1.mem

/-- The state DEMODULATE does not touch (R210). -/
def SameButDemodulated (s t : State) : Prop :=
  t = { s with inp := t.inp, rn := t.rn, vsync := t.vsync, hsync := t.hsync, ccf := t.ccf, eqY := t.eqY, eqI := t.eqI,
               eqQ := t.eqQ, mem := t.mem, response := t.response }

/-- The outputs of an equalizer over a list of inputs (R168). -/
def equalizerOutputs : Equalizer → List Word → List Word
  | _, [] => []
  | f, s :: rest => (eqRun f s).2 :: equalizerOutputs (eqRun f s).1 rest

/-- An equalizer as EQ_INIT leaves it (R166, R262): coefficients four times the sine, gains, all stages zero. -/
def LoadedEqualizer (c : Config) (p : EqParams) (e : Equalizer) : Prop :=
  let angle (k : Word) : Word := tdiv (8192 * tdiv (wordOf (hres c) * (k * 100)) 1431818) (wordOf (hres c))
  e = { lf := 4 * (sincos14 (angle p.floKhz)).1, hf := 4 * (sincos14 (angle p.fhiKhz)).1,
        g0 := p.gLo, g1 := p.gMid, g2 := p.gHi, fL0 := 0, fL1 := 0, fL2 := 0, fL3 := 0,
        fH0 := 0, fH1 := 0, fH2 := 0, fH3 := 0, h0 := 0, h1 := 0, h2 := 0 }

/-- A header that R118 calls illegal. -/
def IllegalHeader (hdr : Word) : Prop :=
  let op := hdr.toNat / 2 ^ 24
  op = 0 ∨ 10 ≤ op ∨ (op ≤ 7 ∧ hdr.toNat % 2 ^ 24 ≠ 0) ∨ (8 ≤ op ∧ op ≤ 9 ∧ hdr.toNat % 2 ^ 24 / 2 ^ 8 ≠ 0)

/-- The number of operand words of an opcode (R113, R115). -/
def operandCount (op : Nat) : Nat := if op ≤ 2 then 4 else if op ≤ 4 ∨ op = 9 then 0 else 1

end Sys2Proof.Claims

open Sys2Proof Sys2Proof.Machine Sys2Proof.Claims

/-! ## Reset, port, decode -/

/-- R62: the state of the model right after reset has every register, buffer element and filter register zero. -/
def Obligations.ResetStateIsAllZero : Prop :=
  (∀ i, sample State.reset.analog i = 0) ∧ (∀ i, sample State.reset.inp i = 0) ∧
  (∀ v k, ccfAt State.reset.ccf v k = 0) ∧
  State.reset.hsync = 0 ∧ State.reset.vsync = 0 ∧ State.reset.rn = 0 ∧
  State.reset.monitor = { hue := 0, saturation := 0, brightness := 0, contrast := 0, blackPoint := 0,
                          whitePoint := 0, scanlines := false, blend := false } ∧
  State.reset.output = { outw := 0, outh := 0, format := 0, base := 0 } ∧
  State.reset.settings = { data := 0, format := 0, w := 0, h := 0, raw := false, asColor := false, field := false,
                           frame := false, hue := 0, xoffset := 0, yoffset := 0, iirsInit := false } ∧
  State.reset.iirY = { c := 0, h := 0 } ∧ State.reset.iirI = { c := 0, h := 0 } ∧ State.reset.iirQ = { c := 0, h := 0 } ∧
  State.reset.eqY = Equalizer.zero ∧ State.reset.eqI = Equalizer.zero ∧ State.reset.eqQ = Equalizer.zero ∧
  State.reset.initialized = false ∧ State.reset.fault = 0

/-- R62 and R300: the step on which the host asserts the reset input puts every register, buffer element and
filter register to zero, whatever they held, a fault included, and does not touch host memory. -/
def Obligations.PowerOnResetZeroesTheBlock : Prop :=
  ∀ s : State, s.resetInput = true → ∃ t, step s = .next t ∧
    (∀ i, sample t.analog i = 0) ∧ (∀ i, sample t.inp i = 0) ∧ (∀ v k, ccfAt t.ccf v k = 0) ∧
    t.hsync = 0 ∧ t.vsync = 0 ∧ t.rn = 0 ∧ t.monitor = Monitor.zero ∧ t.output = OutDesc.zero ∧
    t.settings = Settings.zero ∧ t.iirY = Iir.zero ∧ t.iirI = Iir.zero ∧ t.iirQ = Iir.zero ∧
    t.eqY = Equalizer.zero ∧ t.eqI = Equalizer.zero ∧ t.eqQ = Equalizer.zero ∧
    t.initialized = false ∧ t.fault = 0 ∧ t.mem = s.mem

/-- The model's choice (assumption 6): power-on reset keeps the words at the port, the configuration and the
platform's regions, releases the reset input and leaves no response. -/
def Obligations.PowerOnResetKeepsTheSurroundings : Prop :=
  ∀ s : State, s.resetInput = true → ∃ t, step s = .next t ∧
    t.port = s.port ∧ t.cfg = s.cfg ∧ t.readable = s.readable ∧ t.writable = s.writable ∧
    t.resetInput = false ∧ t.response = none

/-- A word of each command, written out from R111 and R115, decodes to it. -/
def Obligations.WrittenWordsDecode : Prop :=
  decode [0x01000000, 0x280, 0x1E0, 5, 0x100000] = .ok (.init 640 480 5 0x100000, []) ∧
  decode [0x02000000, 640, 480, 2, 0x200000] = .ok (.resize 640 480 2 0x200000, []) ∧
  decode [0x03000000] = .ok (.reset, []) ∧
  decode [0x04000000] = .ok (.modulate, []) ∧
  decode [0x05000000, 0x14] = .ok (.demodulate 20, []) ∧
  decode [0x06000000, 1] = .ok (.bpp4fmt 1, []) ∧
  decode [0x07000000, 0x1000] = .ok (.sincos14 4096, []) ∧
  decode [0x08000015, 1] = .ok (.setctl 0x15 1, []) ∧
  decode [0x09000023] = .ok (.getctl 0x23, [])

/-- R117, its last two lines: with no fault stored and the reset input (assumption 6) not asserted, the step
consumes the words of the decoded command and executes it. -/
def Obligations.StepRunsTheDecodedCommand : Prop :=
  ∀ (s : State) (i : Instr) (rest : List Word), s.resetInput = false → s.fault = 0 → decode s.port = .ok (i, rest) →
    step s = exec i { s with port := rest }

/-- R118: the illegal encodings fault with ILLEGAL_COMMAND on the header and leave the words after it; a legal
SETCTL or GETCTL header of an unimplemented register, or SETCTL of a read-only one, raises ILLEGAL_REGISTER; every
other header selects exactly one of the nine commands. -/
def Obligations.IllegalEncodingsFault : Prop :=
  (∀ (s : State) (hdr : Word) (ws : List Word), s.resetInput = false → s.fault = 0 → s.port = hdr :: ws →
    IllegalHeader hdr → step s = .next (faultedWith 1 { s with port := ws })) ∧
  (∀ (s : State) (reg : Nat) (v : Word), ¬ Implemented s.cfg reg → exec (.getctl reg) s = .next (faultedWith 2 s) ∧
    exec (.setctl reg v) s = .next (faultedWith 2 s)) ∧
  (∀ (s : State) (reg : Nat) (v : Word), Implemented s.cfg reg → ¬ Sys2Proof.Claims.Writable reg →
    exec (.setctl reg v) s = .next (faultedWith 2 s)) ∧
  (∀ (hdr w1 w2 w3 w4 : Word), ¬ IllegalHeader hdr → ∃ i rest, decode [hdr, w1, w2, w3, w4] = .ok (i, rest) ∧
    (encode i).headD 0 = hdr)

/-- R119: a legal header whose operand words are not all presented leaves the block without a step. -/
def Obligations.MissingOperandsLeaveTheBlockWaiting : Prop :=
  ∀ (s : State) (hdr : Word) (ws : List Word), s.resetInput = false → s.fault = 0 → s.port = hdr :: ws →
    ¬ IllegalHeader hdr → ws.length < operandCount (hdr.toNat / 2 ^ 24) → step s = .fault .operandsMissing

/-- R284: a faulted block answers each word with the stored cause and changes nothing else; only power-on reset
takes it out of that state. -/
def Obligations.FaultIsTerminal : Prop :=
  (∀ (s : State) (w : Word) (rest : List Word), s.resetInput = false → s.fault ≠ 0 → s.port = w :: rest →
    step s = .next { s with port := rest, response := some { status := .fault s.fault, r0 := 0, r1 := 0 } }) ∧
  (∀ s t : State, step s = .next t → s.fault ≠ 0 → t.fault ≠ s.fault → s.resetInput = true)

/-- R280 and R283: a command that faults changes the cause register and the response and nothing else, and the
cause is one of the five. -/
def Obligations.FaultsArePrecise : Prop :=
  ∀ (i : Instr) (s t : State), s.fault = 0 → exec i s = .next t → t.fault ≠ 0 →
    t = faultedWith t.fault s ∧ 1 ≤ t.fault.toNat ∧ t.fault.toNat ≤ 5

/-- R282: RESIZE, RESET, MODULATE and DEMODULATE test `initialized` before anything else; the other five commands
do not make the test. -/
def Obligations.UninitializedCommandsFault : Prop :=
  (∀ s : State, s.initialized = false →
    (∀ w h f b, exec (.resize w h f b) s = .next (faultedWith 4 s)) ∧ exec .reset s = .next (faultedWith 4 s) ∧
    exec .modulate s = .next (faultedWith 4 s) ∧ (∀ noise, exec (.demodulate noise) s = .next (faultedWith 4 s))) ∧
  (∀ (s t : State), s.fault ≠ 4 →
    (∀ w h f b, exec (.init w h f b) s = .next t → t.fault ≠ 4) ∧ (∀ f, exec (.bpp4fmt f) s = .next t → t.fault ≠ 4) ∧
    (∀ a, exec (.sincos14 a) s = .next t → t.fault ≠ 4) ∧ (∀ reg v, exec (.setctl reg v) s = .next t → t.fault ≠ 4) ∧
    (∀ reg, exec (.getctl reg) s = .next t → t.fault ≠ 4))

/-- No command stops the machine: each answers a next state, and a response (R116). -/
def Obligations.EveryCommandResponds : Prop :=
  ∀ (i : Instr) (s : State), ∃ t r, exec i s = .next t ∧ t.response = some r ∧
    (r.status ≠ .ok → r.r0 = 0 ∧ r.r1 = 0)

/-- Decoding an encoded command gives it back, whatever words follow (R111 to R117). -/
def Obligations.DecodeInvertsEncode : Prop :=
  ∀ (i : Instr) (rest : List Word), i.wf = true → decode (encode i ++ rest) = .ok (i, rest)

/-- Every word sequence the decoder accepts is the encoding of the command it reads: each command has one
encoding (R111 to R117). -/
def Obligations.EncodeInvertsDecode : Prop :=
  ∀ (ws rest : List Word) (i : Instr), decode ws = .ok (i, rest) → i.wf = true ∧ ws = encode i ++ rest

/-! ## Lifecycle commands -/

/-- R261: INIT with a legal descriptor zeroes the CRT state, sets the output parameters, restores the monitor
defaults, seeds `rn`, loads the equalizers, sets `initialized`, and leaves the settings bank and the IIR instances. -/
def Obligations.InitSetsUpTheBlock : Prop :=
  (∀ (w h f b : Word) (s : State), DescriptorFits w h f b → ∃ t, exec (.init w h f b) s = .next t ∧
    (∀ i, sample t.analog i = 0) ∧ (∀ i, sample t.inp i = 0) ∧ t.analog.size = fieldSize s.cfg ∧
    t.inp.size = fieldSize s.cfg ∧ (∀ v k, ccfAt t.ccf v k = 0) ∧ t.ccf.length = ccVper s.cfg ∧
    LoadedEqualizer s.cfg s.cfg.eqY t.eqY ∧ LoadedEqualizer s.cfg s.cfg.eqI t.eqI ∧
    LoadedEqualizer s.cfg s.cfg.eqQ t.eqQ ∧
    t = { s with
      analog := t.analog, inp := t.inp, ccf := t.ccf, eqY := t.eqY, eqI := t.eqI, eqQ := t.eqQ,
      hsync := 0, vsync := 0, rn := 194, initialized := true, response := okResponse 0 0,
      monitor := { hue := 0, saturation := 10, brightness := 0, contrast := 180, blackPoint := 0,
                   whitePoint := 100, scanlines := false, blend := false },
      output := { outw := w, outh := h, format := f, base := b } }) ∧
  (∀ (w h f b : Word) (s : State), ¬ DescriptorFits w h f b → exec (.init w h f b) s = .next (faultedWith 3 s))

/-- R170: what INIT loads into the equalizers with the parameters of R19's table, for both chroma patterns. -/
def Obligations.ReferenceEqualizersAreAsTabled : Prop :=
  ∀ (w h f b : Word) (s t : State), DescriptorFits w h f b → exec (.init w h f b) s = .next t →
    s.cfg.eqY = Config.reference.eqY → s.cfg.eqI = Config.reference.eqI → s.cfg.eqQ = Config.reference.eqQ →
    (s.cfg.chroma = .vertical → t.eqY.lf = 42064 ∧ t.eqY.hf = 80024 ∧ t.eqI.lf = 2204 ∧ t.eqI.hf = 32536 ∧
      t.eqQ.lf = 2204 ∧ t.eqQ.hf = 28148) ∧
    (s.cfg.chroma = .checkered → t.eqY.lf = 42156 ∧ t.eqY.hf = 79824 ∧ t.eqI.lf = 2252 ∧ t.eqI.hf = 32636 ∧
      t.eqQ.lf = 2252 ∧ t.eqQ.hf = 28248) ∧
    t.eqY.g0 = 65536 ∧ t.eqY.g1 = 8192 ∧ t.eqY.g2 = 9175 ∧ t.eqI.g0 = 65536 ∧ t.eqI.g1 = 65536 ∧ t.eqI.g2 = 1311 ∧
    t.eqQ.g0 = 65536 ∧ t.eqQ.g1 = 65536 ∧ t.eqQ.g2 = 0

/-- R264: RESIZE updates the output parameters only, or faults. -/
def Obligations.ResizeUpdatesOutputOnly : Prop :=
  (∀ (w h f b : Word) (s : State), s.initialized = true → DescriptorFits w h f b →
    exec (.resize w h f b) s =
      .next { s with output := { outw := w, outh := h, format := f, base := b }, response := okResponse 0 0 }) ∧
  (∀ (w h f b : Word) (s : State), s.initialized = true → ¬ DescriptorFits w h f b →
    exec (.resize w h f b) s = .next (faultedWith 3 s)) ∧
  (∀ (w h f b : Word) (s : State), s.initialized = false → exec (.resize w h f b) s = .next (faultedWith 4 s))

/-- R265: RESET restores the six monitor defaults, zeroes the sync positions and changes nothing else. -/
def Obligations.ResetRestoresMonitorDefaults : Prop :=
  (∀ s : State, s.initialized = true → exec .reset s = .next { s with
    monitor := { s.monitor with hue := 0, saturation := 10, brightness := 0, contrast := 180, blackPoint := 0,
                                whitePoint := 100 },
    hsync := 0, vsync := 0, response := okResponse 0 0 }) ∧
  (∀ s : State, s.initialized = false → exec .reset s = .next (faultedWith 4 s))

/-- R267: BPP4FMT answers 3, 4 or 0 for every 32-bit value and changes nothing. -/
def Obligations.Bpp4fmtAnswersForEveryValue : Prop :=
  ∀ (f : Word) (s : State),
    exec (.bpp4fmt f) s = .next { s with response := okResponse (BitVec.ofNat 32 (bytesPerPixel f.toInt)) 0 }

/-! ## Trig and exp -/

/-- R140 and R143: SINCOS14 answers the integer `sincos14` of its operand, for every 32-bit angle, and changes
nothing. -/
def Obligations.Sincos14AnswersTheIntegerRule : Prop :=
  ∀ (a : Word) (s : State), exec (.sincos14 a) s = .next { s with
    response := okResponse (BitVec.ofInt 32 (sineCosine a.toInt).1) (BitVec.ofInt 32 (sineCosine a.toInt).2) }

/-- R144: the symmetries (a) to (f), for every angle. -/
def Obligations.SincosSymmetries : Prop :=
  (∀ a : Word, (sincos14 a).1 + (sincos14 (-a)).1 = 0 ∧ (sincos14 a).2 = (sincos14 (-a)).2 ∧
    (sincos14 a).2 = (sincos14 (a + 4096)).1 ∧ sincos14 (a + 16384) = sincos14 a ∧
    sincos14 (a + 8192) = (-(sincos14 a).1, -(sincos14 a).2)) ∧
  sincos14 0 = (0, 32768) ∧ sincos14 4096 = (32768, 0) ∧ sincos14 8192 = (0, -32768) ∧ sincos14 12288 = (-32768, 0)

/-- R143: both outputs lie in `[-32768, 32768]`. -/
def Obligations.SincosRange : Prop :=
  ∀ a : Word, -32768 ≤ (sincos14 a).1.toInt ∧ (sincos14 a).1.toInt ≤ 32768 ∧
    -32768 ≤ (sincos14 a).2.toInt ∧ (sincos14 a).2.toInt ≤ 32768

/-- R150: the values of EXPX the block needs and the further ones the rule lists. -/
def Obligations.ExpxValues : Prop :=
  expx (-1887) = 815 ∧ expx (-674) = 1474 ∧ expx (-247) = 1816 ∧ expx 0 = 2048 ∧ expx 1 = 2049 ∧ expx (-1) = 2047 ∧
  expx 255 = 2318 ∧ expx 256 = 2320 ∧ expx 1024 = 3375 ∧ expx (-1024) = 1242 ∧ expx 2047 = 5562 ∧ expx 2048 = 5567 ∧
  expx (-2048) = 753 ∧ expx 3000 = 8856 ∧ expx (-3000) = 473 ∧ expx 4096 = 15133 ∧ expx (-4096) = 277 ∧
  expx 8192 = 111817 ∧ expx (-8192) = 37 ∧ expx 8193 = 111871

/-! ## Filters -/

/-- R163: IIR_STEP over the integers: the product wraps, the shift floors, the sum wraps; the coefficient stays. -/
def Obligations.IirStepOverTheIntegers : Prop :=
  ∀ (f : Iir) (s : Word), (iirStep f s).c = f.c ∧
    (iirStep f s).h.toInt =
      Int.bmod (f.h.toInt + Int.bmod ((s.toInt - f.h.toInt) * f.c.toInt) (2 ^ 32) / 2048) (2 ^ 32)

/-- R164: towards a constant input the history never overshoots; from above it falls at every step until it is
there; from below it stands still exactly when `(s - h) * c < 2048`. -/
def Obligations.IirApproachesItsInput : Prop :=
  ∀ (f : Iir) (s : Word), 0 < f.c.toInt → f.c.toInt < 2048 → -2 ^ 19 ≤ s.toInt - f.h.toInt →
    s.toInt - f.h.toInt ≤ 2 ^ 19 →
    (s.toInt < f.h.toInt → s.toInt ≤ (iirStep f s).h.toInt ∧ (iirStep f s).h.toInt < f.h.toInt) ∧
    (f.h.toInt ≤ s.toInt → f.h.toInt ≤ (iirStep f s).h.toInt ∧ (iirStep f s).h.toInt ≤ s.toInt ∧
      ((iirStep f s).h = f.h ↔ (s.toInt - f.h.toInt) * f.c.toInt < 2048))

/-- R169, first sentence: after EQ_RESET a stream of zero inputs produces zero outputs. -/
def Obligations.EqualizerSilence : Prop :=
  ∀ (f : Equalizer) (n : Nat), equalizerOutputs (eqReset f) (List.replicate n 0) = List.replicate n 0

/-- R169, last part: with all eight stages and the history at the constant input, the output is
`asr(s * g_lo, 16)` and the stages stay. -/
def Obligations.EqualizerSteadyState : Prop :=
  ∀ (f : Equalizer) (s : Word), f.fL0 = s → f.fL1 = s → f.fL2 = s → f.fL3 = s → f.fH0 = s → f.fH1 = s → f.fH2 = s →
    f.fH3 = s → f.h0 = s → f.h1 = s → f.h2 = s → eqRun f s = (f, asr (s * f.g0) 16)

/-- R168 over the integers, for every register and input: each of the eight stages moves towards the stage before it
as already updated, its rounding constant inside the shift; the output is the wrapped sum of the low, mid and high
band times their gains, the high band against the input of three steps ago; the history shifts and so holds the last
three inputs, newest first; the coefficients stay. -/
def Obligations.EqualizerStepOverTheIntegers : Prop :=
  (∀ (f : Equalizer) (s : Word),
    let t := (eqRun f s).1
    let stage (k x old : Word) : Int :=
      wrap32 (old.toInt + wrap32 (k.toInt * (x.toInt - old.toInt) + 32768) / 2 ^ 16)
    let band (v : Int) (g : Word) : Int := wrap32 (v * g.toInt) / 2 ^ 16
    t.fL0.toInt = stage f.lf s f.fL0 ∧ t.fL1.toInt = stage f.lf t.fL0 f.fL1 ∧
    t.fL2.toInt = stage f.lf t.fL1 f.fL2 ∧ t.fL3.toInt = stage f.lf t.fL2 f.fL3 ∧
    t.fH0.toInt = stage f.hf s f.fH0 ∧ t.fH1.toInt = stage f.hf t.fH0 f.fH1 ∧
    t.fH2.toInt = stage f.hf t.fH1 f.fH2 ∧ t.fH3.toInt = stage f.hf t.fH2 f.fH3 ∧
    t.h0 = s ∧ t.h1 = f.h0 ∧ t.h2 = f.h1 ∧ SameCoefficients f t ∧
    (eqRun f s).2.toInt =
      wrap32 (band t.fL3.toInt f.g0 + band (t.fH3.toInt - t.fL3.toInt) f.g1 + band (f.h2.toInt - t.fH3.toInt) f.g2)) ∧
  (∀ (f : Equalizer) (a b c : Word),
    let g := (eqRun (eqRun (eqRun f a).1 b).1 c).1
    g.h2 = a ∧ g.h1 = b ∧ g.h0 = c ∧ SameCoefficients f g)

/-! ## Control registers -/

/-- R270: SETCTL writes the one register, which GETCTL then reads back, and every other register reads as before;
it faults for an unimplemented or read-only register, and for a value other than 0 and 1 in a 1-bit register. -/
def Obligations.SetctlWritesOneRegister : Prop :=
  ∀ (reg : Nat) (v : Word) (s : State),
    (¬ Sys2Proof.Claims.Writable reg → exec (.setctl reg v) s = .next (faultedWith 2 s)) ∧
    (Sys2Proof.Claims.Writable reg → OneBit reg → v ≠ 0 → v ≠ 1 → exec (.setctl reg v) s = .next (faultedWith 3 s)) ∧
    (Sys2Proof.Claims.Writable reg → (OneBit reg → v = 0 ∨ v = 1) →
      ∃ t, exec (.setctl reg v) s = .next t ∧ t.response = okResponse 0 0 ∧ SameButControls s t ∧ ReadsAs t reg v ∧
        ∀ reg' old, reg' ≠ reg → ReadsAs s reg' old → ReadsAs t reg' old)

/-- R271: GETCTL answers the register of its number, for every number of R49's table, and changes nothing; an
unimplemented number faults. -/
def Obligations.GetctlReadsTheTable : Prop :=
  ∀ s : State,
    ReadsAs s 0x00 s.monitor.hue ∧ ReadsAs s 0x01 s.monitor.saturation ∧ ReadsAs s 0x02 s.monitor.brightness ∧
    ReadsAs s 0x03 s.monitor.contrast ∧ ReadsAs s 0x04 s.monitor.blackPoint ∧ ReadsAs s 0x05 s.monitor.whitePoint ∧
    ReadsAs s 0x06 (if s.monitor.scanlines then 1 else 0) ∧ ReadsAs s 0x07 (if s.monitor.blend then 1 else 0) ∧
    ReadsAs s 0x08 s.output.outw ∧ ReadsAs s 0x09 s.output.outh ∧ ReadsAs s 0x0A s.output.format ∧
    ReadsAs s 0x0B s.output.base ∧ ReadsAs s 0x0C s.hsync ∧ ReadsAs s 0x0D s.vsync ∧ ReadsAs s 0x0E s.rn ∧
    ReadsAs s 0x0F (if s.initialized then 1 else 0) ∧ ReadsAs s 0x10 s.settings.data ∧
    ReadsAs s 0x11 s.settings.format ∧ ReadsAs s 0x12 s.settings.w ∧ ReadsAs s 0x13 s.settings.h ∧
    ReadsAs s 0x14 (if s.settings.raw then 1 else 0) ∧ ReadsAs s 0x15 (if s.settings.asColor then 1 else 0) ∧
    ReadsAs s 0x16 (if s.settings.field then 1 else 0) ∧ ReadsAs s 0x17 (if s.settings.frame then 1 else 0) ∧
    ReadsAs s 0x18 s.settings.hue ∧ ReadsAs s 0x19 s.settings.xoffset ∧ ReadsAs s 0x1A s.settings.yoffset ∧
    ReadsAs s 0x1B (if s.settings.iirsInit then 1 else 0) ∧
    (∀ v k, v < ccVper s.cfg → k < 4 → ReadsAs s (0x20 + v * 4 + k) (ccfAt s.ccf v k)) ∧
    (∀ reg, ¬ Implemented s.cfg reg → exec (.getctl reg) s = .next (faultedWith 2 s))

/-! ## MODULATE -/

/-- MODULATE completes: it answers OK, changes only the state R181 names, sets `S_IIRS_INIT` and the coefficients
as R183 says, leaves the IIR instances as the last row of the rectangle leaves them (R196, R199, R201), keeps the
buffer's size, and seeds every row of `ccf` with the burst times 128 (R195, R206). -/
def Obligations.ModulateCompletes : Prop :=
  ∀ s : State, ModulateReady s → ∃ t, exec .modulate s = .next t ∧ t.response = okResponse 0 0 ∧
    SameButModulated s t ∧ t.settings = { s.settings with iirsInit := true } ∧
    t.iirY.c = (modulateCoeffs s).y.c ∧ t.iirI.c = (modulateCoeffs s).i.c ∧ t.iirQ.c = (modulateCoeffs s).q.c ∧
    (let last := filteredRow (modulateCoeffs s) s ((rectHeight s.settings).toNat - 1) (rectWidth s.cfg s.settings).toNat
     t.iirY = last.y ∧ t.iirI = last.i ∧ t.iirQ = last.q) ∧
    t.analog.size = s.analog.size ∧ t.ccf.length = ccVper s.cfg ∧
    (∀ v k, v < ccVper s.cfg → k < 4 → (ccfAt t.ccf v k).toInt = 128 * burstValue s.cfg s.settings k)

/-- R191 to R193 and R202: after MODULATE every sample outside the destination rectangle has the value of the
line's layout, and where the layout writes nothing the value it had. -/
def Obligations.ModulateLaysOutTheField : Prop :=
  ∀ (s t : State), ModulateReady s → s.analog.size = fieldSize s.cfg → exec .modulate s = .next t →
    ∀ n x : Nat, n < 262 → x < hres s.cfg → ¬ InRect s.cfg s.settings n x →
      (sample t.analog (n * hres s.cfg + x)).toInt =
        (layoutValue s.cfg s.settings n x).getD (sample s.analog (n * hres s.cfg + x)).toInt

/-- R196 to R201: after MODULATE sample `x` of row `y` of the destination rectangle is the clamped level of the
source pixels `0 .. x` of its source row, each read at the offsets of R84 and converted by R198 over the integers,
filtered from zero history. -/
def Obligations.ModulatePaintsThePicture : Prop :=
  ∀ s t : State, ModulateReady s → s.analog.size = fieldSize s.cfg → exec .modulate s = .next t →
    ∀ x y : Nat, (x : Int) < rectWidth s.cfg s.settings → (y : Int) < rectHeight s.settings →
      (sample t.analog ((x + (rectX s.cfg s.settings).toNat) + (y + (rectY s.settings).toNat) * hres s.cfg)).toInt =
        pictureLevel s (filteredRow (modulateCoeffs s) s y (x + 1)) x

/-- R186: with a recognized format, a failed operand check raises ILLEGAL_OPERAND; with the operands legal, a
source region past the address space or not readable raises MEM_FAULT. -/
def Obligations.ModulateEntryChecks : Prop :=
  ∀ s : State, s.initialized = true → bytesPerPixel s.settings.format.toInt ≠ 0 →
    (¬ ModulateOperandsOk s.cfg s.settings → exec .modulate s = .next (faultedWith 3 s)) ∧
    (ModulateOperandsOk s.cfg s.settings → ¬ Admitted s.readable s.settings.data.toNat (sourceBytes s.settings) →
      exec .modulate s = .next (faultedWith 5 s))

/-- R184: with an unrecognized format MODULATE performs step 1 and answers OK, having written nothing else. -/
def Obligations.ModulateUnsupportedFormat : Prop :=
  ∀ s : State, s.initialized = true → bytesPerPixel s.settings.format.toInt = 0 →
    exec .modulate s = .next { s with
      iirY := (modulateCoeffs s).y, iirI := (modulateCoeffs s).i, iirQ := (modulateCoeffs s).q,
      settings := { s.settings with iirsInit := true }, response := okResponse 0 0 }

/-- R189: the carrier tables over the integers, for hues whose products do not wrap; all zero in monochrome. -/
def Obligations.CarrierTables : Prop :=
  ∀ (t : Settings) (k : Nat), k < 4 → -200000 < t.hue.toInt → t.hue.toInt < 200000 →
    (t.asColor = true →
      (rowAt (ccburst t) k).toInt = (sineCosine (((t.hue.toInt + k * 90 + 33) * 8192).tdiv 180)).1 / 1024 ∧
      (rowAt (ccmodI t) k).toInt = (sineCosine (((t.hue.toInt + k * 90) * 8192).tdiv 180)).1 / 1024 ∧
      (rowAt (ccmodQ t) k).toInt = (sineCosine (((t.hue.toInt + k * 90 - 90) * 8192).tdiv 180)).1 / 1024) ∧
    (t.asColor = false → rowAt (ccburst t) k = 0 ∧ rowAt (ccmodI t) k = 0 ∧ rowAt (ccmodQ t) k = 0)

/-- The positions of R14's table and the percentages of R190, for both patterns. -/
def Obligations.SamplePositions : Prop :=
  ∀ c : Config,
    (c.chroma = .vertical → hres c = 912 ∧ fieldSize c = 238944 ∧ ccVper c = 1 ∧ fpBeg c = 0 ∧ syncBeg c = 21 ∧
      bwBeg c = 89 ∧ cbBeg c = 97 ∧ bpBeg c = 133 ∧ avBeg c = 156 ∧ avLen c = 755 ∧
      [4, 46, 50, 54, 96, 100].map (pct c) = [36, 419, 456, 492, 875, 912]) ∧
    (c.chroma = .checkered → hres c = 910 ∧ fieldSize c = 238420 ∧ ccVper c = 2 ∧ fpBeg c = 0 ∧ syncBeg c = 21 ∧
      bwBeg c = 88 ∧ cbBeg c = 97 ∧ bpBeg c = 133 ∧ avBeg c = 156 ∧ avLen c = 753 ∧
      [4, 46, 50, 54, 96, 100].map (pct c) = [36, 418, 455, 491, 873, 910])

/-! ## DEMODULATE -/

/-- DEMODULATE completes: it answers OK, changes only the state R210 names, keeps the equalizers' coefficients and
the shapes of `inp` and `ccf`, and leaves every byte of host memory outside the output region (R243). -/
def Obligations.DemodulateCompletes : Prop :=
  ∀ (s : State) (noise : Word), DemodulateReady s noise → ∃ t, exec (.demodulate noise) s = .next t ∧
    t.response = okResponse 0 0 ∧ SameButDemodulated s t ∧ SameCoefficients s.eqY t.eqY ∧
    SameCoefficients s.eqI t.eqI ∧ SameCoefficients s.eqQ t.eqQ ∧ t.inp.size = s.inp.size ∧
    t.ccf.length = s.ccf.length ∧
    ∀ a : Nat, (a < s.output.base.toNat ∨ s.output.base.toNat +
        (s.output.outw.toInt * s.output.outh.toInt).toNat * bytesPerPixel s.output.format.toInt ≤ a) →
      readByte t.mem a = readByte s.mem a

/-- R212: DEMODULATE advances the generator once per sample and leaves in `inp` the clamped noisy samples. -/
def Obligations.DemodulateAddsNoise : Prop :=
  ∀ (s t : State) (noise : Word), DemodulateReady s noise → s.inp.size = fieldSize s.cfg →
    exec (.demodulate noise) s = .next t →
    t.rn.toNat = noiseSeed s.rn.toNat (fieldSize s.cfg) ∧
    ∀ i : Nat, i < fieldSize s.cfg →
      (sample t.inp i).toInt = noisyValue noise.toInt (noiseSeed s.rn.toNat (i + 1)) (sample s.analog i).toInt

/-- R246: after a DEMODULATE that runs, every element of `inp` is in `[-127, 127]` and the sync seeds are in
range. -/
def Obligations.DemodulateLeavesBounds : Prop :=
  ∀ (s t : State) (noise : Word), DemodulateReady s noise → s.inp.size = fieldSize s.cfg →
    0 ≤ s.hsync.toInt → s.hsync.toInt < hres s.cfg → 0 ≤ s.vsync.toInt → s.vsync.toInt < 262 →
    exec (.demodulate noise) s = .next t →
    (∀ i, -127 ≤ (sample t.inp i).toInt ∧ (sample t.inp i).toInt ≤ 127) ∧
    0 ≤ t.hsync.toInt ∧ t.hsync.toInt < hres s.cfg ∧ 0 ≤ t.vsync.toInt ∧ t.vsync.toInt < 262

/-- R211: the entry of DEMODULATE on an initialized block: a negative noise level faults; an unrecognized output
format changes nothing at all; an output region that is not writable or not readable faults. -/
def Obligations.DemodulateEntry : Prop :=
  (∀ (s : State) (noise : Word), s.initialized = true → noise.toInt < 0 →
    exec (.demodulate noise) s = .next (faultedWith 3 s)) ∧
  (∀ (s : State) (noise : Word), s.initialized = true → 0 ≤ noise.toInt →
    bytesPerPixel s.output.format.toInt = 0 →
    exec (.demodulate noise) s = .next { s with response := okResponse 0 0 }) ∧
  (∀ (s : State) (noise : Word), s.initialized = true → 0 ≤ noise.toInt →
    bytesPerPixel s.output.format.toInt ≠ 0 →
    DescriptorFits s.output.outw s.output.outh s.output.format s.output.base →
    (¬ Admitted s.writable s.output.base.toNat
        ((s.output.outw.toInt * s.output.outh.toInt).toNat * bytesPerPixel s.output.format.toInt) ∨
      ¬ Admitted s.readable s.output.base.toNat
        ((s.output.outw.toInt * s.output.outh.toInt).toNat * bytesPerPixel s.output.format.toInt)) →
    exec (.demodulate noise) s = .next (faultedWith 5 s))

/-- R214: the vertical search finds the first candidate line, and in it the first sample, at which the running
sum has reached the threshold; it finds none only where no candidate line reaches it. -/
def Obligations.VerticalSearchFindsTheFirst : Prop :=
  ∀ (c : Config) (inp : Buffer) (vsync : Word), c.wf = true → 0 ≤ vsync.toInt → vsync.toInt < 262 →
    c.vsyncWindow < 2 ^ 30 →
    let limit := (c.vsyncThresh * syncLevel).toInt
    let lineOf (i : Int) : Nat := ((vsync.toInt + i) % 262).toNat
    let reaches (i : Int) (j : Nat) : Prop := sumThrough inp (lineOf i * hres c) j ≤ limit
    match vsyncHit c inp vsync with
    | some (line, j) => ∃ i : Int, -(c.vsyncWindow : Int) ≤ i ∧ i < c.vsyncWindow ∧ line = lineOf i ∧ j < hres c ∧
        reaches i j ∧ (∀ k, k < j → ¬ reaches i k) ∧
        (∀ i' : Int, -(c.vsyncWindow : Int) ≤ i' → i' < i → ∀ k, k < hres c → ¬ reaches i' k)
    | none => ∀ i : Int, -(c.vsyncWindow : Int) ≤ i → i < c.vsyncWindow → ∀ k, k < hres c → ¬ reaches i k

/-- R215 and R216: the vertical seed a DEMODULATE leaves, from the search over its noisy field, and the field
parity of every outcome of the search: 1 exactly for a hit past the line midpoint, `SYNC_FAIL_SLEW` for none. -/
def Obligations.VerticalSeedAfterSearch : Prop :=
  (∀ (c : Config) (hit : Option (Nat × Nat)), fieldOf c hit = oddField c hit) ∧
  ∀ (s t : State) (noise : Word), DemodulateReady s noise → exec (.demodulate noise) s = .next t →
    (s.cfg.doVsync = false → t.vsync = 259) ∧
    (s.cfg.doVsync = true → ∀ line j, vsyncHit s.cfg t.inp s.vsync = some (line, j) → t.vsync = BitVec.ofNat 32 line) ∧
    (s.cfg.doVsync = true → vsyncHit s.cfg t.inp s.vsync = none → s.cfg.syncFailSlew = false → t.vsync = s.vsync) ∧
    (s.cfg.doVsync = true → vsyncHit s.cfg t.inp s.vsync = none → s.cfg.syncFailSlew = true → 0 ≤ s.vsync.toInt →
      s.vsync.toInt < 262 → s.cfg.vsyncWindow < 2 ^ 30 →
      t.vsync.toInt = (s.vsync.toInt + s.cfg.vsyncWindow - 1) % 262)

/-- R219 to R229 on the whole command: the `hsync` and `ccf` a DEMODULATE leaves are those of its lines in order,
each searched from the seed the line before left and each adding its forty burst samples to its row of `ccf`; and
with `DO_HSYNC = 0` it leaves `hsync = 0` (R223). -/
def Obligations.LinesLeaveTheSeedAndTheBurst : Prop :=
  ∀ (s t : State) (noise : Word), DemodulateReady s noise → exec (.demodulate noise) s = .next t →
    (0 ≤ s.hsync.toInt → s.hsync.toInt < hres s.cfg → 0 ≤ s.vsync.toInt → s.vsync.toInt < 262 →
      (t.hsync, t.ccf) = linesSync (searchScan s t) (fieldOffset s t) (s.hsync, s.ccf) 240) ∧
    (s.cfg.doHsync = false → t.hsync = 0)

/-- R221: the horizontal search finds the first offset at which the running sum from `-HSYNC_WINDOW` on has reached
the threshold, and finds none only where no offset of the window reaches it (windows whose sums do not wrap). -/
def Obligations.HorizontalSearchFindsTheFirst : Prop :=
  ∀ (e : Scan) (line : Nat) (hsync : Word), line < 262 → 0 ≤ e.vsync.toInt → e.vsync.toInt < 262 →
    e.cfg.hsyncWindow < 2 ^ 22 →
    let limit := (e.cfg.hsyncThresh * syncLevel).toInt
    let origin := BitVec.ofInt 32 ((line + e.vsync.toInt) % 262 * hres e.cfg) + hsync + wordOf (syncBeg e.cfg)
    let reaches (n : Nat) : Prop := sumFrom e origin (-(e.cfg.hsyncWindow : Int)) n ≤ limit
    match hsyncHit e line hsync with
    | some i => ∃ n : Nat, n < 2 * e.cfg.hsyncWindow ∧ i = (n : Int) - e.cfg.hsyncWindow ∧ reaches n ∧
        ∀ m, m < n → ¬ reaches m
    | none => ∀ n, n < 2 * e.cfg.hsyncWindow → ¬ reaches n

/-- R223 and R224: the horizontal seed after the search, over the integers. -/
def Obligations.HorizontalSeedAfterSearch : Prop :=
  ∀ (c : Config) (hsync : Word), 0 ≤ hsync.toInt → hsync.toInt < hres c → c.hsyncWindow < 2 ^ 22 →
    (c.doHsync = false → ∀ hit, hsyncAfter c hsync hit = 0) ∧
    (c.doHsync = true → ∀ i : Int, -(c.hsyncWindow : Int) ≤ i → i < c.hsyncWindow →
      (hsyncAfter c hsync (some i)).toInt = (hsync.toInt + i) % hres c) ∧
    (c.doHsync = true → c.syncFailSlew = false → hsyncAfter c hsync none = hsync) ∧
    (c.doHsync = true → c.syncFailSlew = true →
      (hsyncAfter c hsync none).toInt = (hsync.toInt + c.hsyncWindow) % hres c)

/-- R229: an accumulator fed samples of `inp`'s range stays in `[-16256, 16256]`; fed a constant sample `v` it
converges to within 127 of `128 * v` (32512 updates are enough from anywhere in that range), where also each of its
fixed points lies; and the integrator adds to bucket `k` the ten samples of the signal line at `base + t`,
`t mod 4 = k`. -/
def Obligations.BurstAverageConverges : Prop :=
  (∀ c v : Word, -127 ≤ v.toInt → v.toInt ≤ 127 → -16256 ≤ c.toInt → c.toInt ≤ 16256 →
    -16256 ≤ (averageBurst c v).toInt ∧ (averageBurst c v).toInt ≤ 16256 ∧
    (averageBurst c v = c → -127 ≤ c.toInt - 128 * v.toInt ∧ c.toInt - 128 * v.toInt ≤ 127) ∧
    ∀ n : Nat, 32512 ≤ n →
      -127 ≤ ((fun x => averageBurst x v)^[n] c).toInt - 128 * v.toInt ∧
        ((fun x => averageBurst x v)^[n] c).toInt - 128 * v.toInt ≤ 127) ∧
  (∀ (e : Scan) (line : Nat) (hsync : Word) (row : BurstRow), line < 262 → 0 ≤ e.vsync.toInt → e.vsync.toInt < 262 →
    0 ≤ hsync.toInt → hsync.toInt < hres e.cfg → ∀ k, k < 4 →
    rowAt (integrateBurst e (burstBase e line hsync) row) k =
      burstBucket e.cfg e.inp (burstStart e.cfg e.vsync.toInt hsync.toInt line) k (rowAt row k) 10)

/-- R218: `max_e` is `(128 + noise/2) * AV_LEN`, positive, below noise 2^22; for every legal noise level it is not
zero, so R232 never divides by zero. -/
def Obligations.BloomEnergyScale : Prop :=
  ∀ (c : Config) (noise : Word), 0 ≤ noise.toInt →
    (noise.toInt < 2 ^ 22 → (maxEnergy c noise).toInt = (128 + noise.toInt / 2) * avLen c ∧
      0 < (maxEnergy c noise).toInt) ∧
    maxEnergy c noise ≠ 0

/-- R220 and R244: for `240 <= outh <= 32767` and no field offset the bands of the 240 lines are not empty and
tile the rows `0 .. outh - 1`. -/
def Obligations.BandsTileTheOutput : Prop :=
  ∀ e : Scan, 240 ≤ e.output.outh.toInt → e.output.outh.toInt ≤ 32767 → e.fieldOff = 0 →
    (bandBegin e 21).toInt = 0 ∧ (bandEnd e 260).toInt = e.output.outh.toInt ∧
    (∀ line, 21 ≤ line → line < 261 → (bandBegin e line).toInt < (bandEnd e line).toInt) ∧
    (∀ line, 21 ≤ line → line < 260 → bandEnd e line = bandBegin e (line + 1))

/-- The window: R233 and R237: with `DO_BLOOM = 0` it starts at 0, its step is `floor((AV_LEN - 1) * 4096 / outw)`, it
covers the samples `0 .. AV_LEN - 1`, and the position stays left of `scanR` for all `outw` pixels of a row.
R232: with `DO_BLOOM = 1` the filtered energy, the step and the window over the integers, for an energy scale of at
least that of noise 0 and a filtered energy within 65536 (R232's bounds are inside); only the product by 1024 can
wrap (R22).
What the line loop starts with: `bright`, `huesn`, `huecs` (R213), `max_e` and `prev_e` (R218), the line buffer (R235).
The carrier over the integers (R230, R231).
A line (R220, R225, R232 to R237, R242): one whose band begins past the output changes nothing; any other, with the seed
and the row of `ccf` that its search and its burst leave, takes the window at its `pos`, feeds the three equalizers from
EQ_RESET with the samples of the window, leaves in the line buffer their scaled outputs and every other entry as it
was, resamples that buffer into the first row of its band, and duplicates that row. -/
def Obligations.LineIsDecodedThroughItsWindow : Prop :=
  (∀ (e : Scan) (prevE pos : Word), 1 ≤ e.output.outw.toInt → e.output.outw.toInt ≤ 32767 →
    let w := scanWindow e prevE pos
    w.scanR.toInt = (avLen e.cfg - 1) * 4096 ∧
    (e.cfg.doBloom = false →
      w.prevE = prevE ∧ w.scanL = 0 ∧ w.dx.toInt = ((avLen e.cfg : Int) - 1) * 4096 / e.output.outw.toInt ∧
      w.first = 0 ∧ w.last = avLen e.cfg ∧
      ∀ k : Nat, (k : Int) < e.output.outw.toInt →
        (BitVec.ofNat 32 k * w.dx).toInt = k * w.dx.toInt ∧ (BitVec.ofNat 32 k * w.dx).toInt < w.scanR.toInt) ∧
    (e.cfg.doBloom = true → 96384 ≤ e.maxE.toInt → -65536 ≤ prevE.toInt → prevE.toInt ≤ 65536 →
      let energy := sumFrom e pos 0 (avLen e.cfg - 1)
      let pe := (prevE.toInt * 123).tdiv 128 + (wrap32 ((e.maxE.toInt / 2 - energy) * 1024)).tdiv e.maxE.toInt
      let width : Int := (avLen e.cfg : Int) * 112 / 128 + pe / 512
      let left : Int := (avLen e.cfg : Int) / 2 - width / 2 + 8
      w.prevE.toInt = pe ∧ w.dx.toInt = width * 4096 / e.output.outw.toInt ∧ w.scanL.toInt = left * 4096 ∧
      w.first = left ∧ w.last = avLen e.cfg - 1)) ∧
  (∀ (start : DemodInput) (s : State) (f : PixelFormat) (noise : Word) (field : Bool),
    let e := scanOf start s f noise field
    e.bright.toInt = lineBright s.monitor ∧ (e.huesn.toInt, e.huecs.toInt) = hueSines s.monitor ∧
    e.maxE = maxEnergy s.cfg noise ∧ (carryOf s).prevE = 2048 ∧
    (carryOf s).lb = Array.replicate (avLen s.cfg + 1) { y := 0, i := 0, q := 0 }) ∧
  (∀ (e : Scan) (ccr : BurstRow) (align k : Nat), (rowAt (carrier e ccr align) k).toInt =
    waveOf e.cfg e.monitor.saturation.toInt (e.huesn.toInt, e.huecs.toInt) ccr align k) ∧
  (∀ (e : Scan) (line : Nat) (c : LineCarry), 21 ≤ line → line < 261 → 0 ≤ e.vsync.toInt → e.vsync.toInt < 262 →
    0 ≤ c.hsync.toInt → c.hsync.toInt < hres e.cfg → c.ccf.length = ccVper e.cfg → c.lb.size = avLen e.cfg + 1 →
    1 ≤ e.output.outh.toInt → e.output.outh.toInt ≤ 32767 → 0 ≤ e.fieldOff.toInt → e.fieldOff.toInt ≤ 32767 →
    let t := demodLine e line c
    let vsync := e.vsync.toInt
    let rows := e.output.outh.toInt
    let first := ((line : Int) - 21) * rows / 240 + e.fieldOff.toInt
    let last := min (((line : Int) - 20) * rows / 240 + e.fieldOff.toInt) rows
    let ccr := t.ccf.getD (((line + vsync + 3) % 262).toNat % ccVper e.cfg) zeroRow
    let l := lineSignal e.cfg e.inp vsync e.bright.toInt e.monitor.saturation.toInt (e.huesn.toInt, e.huecs.toInt)
      t.hsync.toInt ccr line
    let w := scanWindow e c.prevE (BitVec.ofInt 32 (pictureStart e.cfg vsync t.hsync.toInt line))
    (rows ≤ first → t = c) ∧
    (first < rows →
      t.prevE = w.prevE ∧
      t.mem = duplicateRows e first.toNat last.toNat
        (resample e line t.lb w e.output.outw.toInt.toNat 0 w.scanL (rowAddr e first.toNat) c.mem) ∧
      (0 ≤ w.first →
        t.eqs = equalizersFed l c.eqs w.first.toNat (w.last - w.first).toNat ∧ t.lb.size = avLen e.cfg + 1 ∧
        ∀ i : Nat, t.lb.getD i { y := 0, i := 0, q := 0 } =
          if w.first ≤ i ∧ i < w.last then decodedEntry l c.eqs w.first.toNat (i - w.first.toNat)
          else c.lb.getD i { y := 0, i := 0, q := 0 })))

/-- R237 to R241 and R310 (c): the pixels before `stop`, the first whose position is not left of `scanR` (or the end of
the row), are stored: each of the three bytes, at the format's offsets, is the channel of R238 and R239 over the
integers, or with `blend` the sum of one half of it and one half of the byte that stood there, each rounded down. From
pixel `stop` on, as outside the row, no byte changes. A buffer entry outside `0 .. AV_LEN` is free (assumption 9). -/
def Obligations.ResampleStoresEveryPixel : Prop :=
  ∀ (e : Scan) (line : Nat) (lb : Array Yiq) (w : Window) (n stop addr : Nat) (m : Memory) (code : Word),
    memoryWf m = true → pixelFormat? code = some e.format →
    let size := bytesPerPixel code.toInt
    let position (k : Nat) : Int := wrap32 (w.scanL.toInt + k * w.dx.toInt)
    addr + n * size ≤ 2 ^ 32 → stop ≤ n → (∀ k, k < stop → position k < w.scanR.toInt) →
    (stop < n → w.scanR.toInt ≤ position stop) →
    let m' := resample e line lb w n 0 w.scanL addr m
    let entry (k side : Nat) (i : Int) : Yiq :=
      if 0 ≤ i ∧ i ≤ avLen e.cfg then lb.getD i.toNat { y := 0, i := 0, q := 0 } else lineEntry e line k side lb i
    let new (ci cq : Int) (k : Nat) : Int :=
      channelValue e.monitor.contrast.toInt ci cq (entry k 0 (position k / 4096)) (entry k 1 (position k / 4096 + 1))
        (position k)
    let leaves (k offset : Nat) (v : Int) : Prop :=
      (readByte m' (addr + k * size + offset)).toNat =
        storedByte e.monitor.blend v (readByte m (addr + k * size + offset)).toNat
    (∀ k, k < stop →
      leaves k (redOffset code.toInt) (new 3879 2556 k) ∧ leaves k (greenOffset code.toInt) (new (-1126) (-2605) k) ∧
      leaves k (blueOffset code.toInt) (new (-4530) 7021 k)) ∧
    (∀ x, x < addr ∨ addr + stop * size ≤ x → readByte m' x = readByte m x)

/-- R240: the blend of two pixels is, channel by channel, `floor(new/2) + floor(old/2)`. -/
def Obligations.BlendHalvesEachChannel : Prop :=
  ∀ n o : Rgb, n.r.toNat < 256 → n.g.toNat < 256 → n.b.toNat < 256 → o.r.toNat < 256 → o.g.toNat < 256 →
    o.b.toNat < 256 →
    let p := unpackRgb (blendPacked (packRgb n) (packRgb o))
    p.r.toNat = n.r.toNat / 2 + o.r.toNat / 2 ∧ p.g.toNat = n.g.toNat / 2 + o.g.toNat / 2 ∧
      p.b.toNat = n.b.toNat / 2 + o.b.toNat / 2

/-- R84, R124 and R241: the six formats by their codes, each with its bytes per pixel and its R, G and B offsets; a
pixel read takes the three channel bytes at those offsets (R86); a pixel store writes them there and no other byte. That
the alpha byte of a 4-byte format keeps its value is the model's choice (assumption 8): 93_implementation_defined.md U1
allows any value there, and a claim about output pixels may not depend on it. -/
def Obligations.PixelStoreWritesThreeBytes : Prop :=
  (([0, 1, 2, 3, 4, 5] : List Word).map fun code => (pixelFormat? code).map fun f => (f.bytes, f.rOff, f.gOff, f.bOff)) =
    [some (3, 0, 1, 2), some (3, 2, 1, 0), some (4, 1, 2, 3), some (4, 0, 1, 2), some (4, 3, 2, 1), some (4, 2, 1, 0)] ∧
  (∀ code : Word, 5 < code.toNat → pixelFormat? code = none) ∧
  ∀ (m : Memory) (code : Word) (f : PixelFormat) (a : Nat), memoryWf m = true → pixelFormat? code = some f →
    a + bytesPerPixel code.toInt ≤ 2 ^ 32 →
    let red := a + redOffset code.toInt
    let green := a + greenOffset code.toInt
    let blue := a + blueOffset code.toInt
    ((readPixel m f a).r.toNat = (readByte m red).toNat ∧ (readPixel m f a).g.toNat = (readByte m green).toNat ∧
      (readPixel m f a).b.toNat = (readByte m blue).toNat) ∧
    ∀ (p : Rgb) (x : Nat), readByte (writePixel m f a p) x =
      if x = red then p.r.setWidth 8 else if x = green then p.g.setWidth 8
      else if x = blue then p.b.setWidth 8 else readByte m x

/-- R242: row duplication leaves rows `beg .. end - scanlines - 1` equal to row `beg`, all `pitch` bytes, and
changes no byte outside the rows `beg + 1 .. end - scanlines - 1`. -/
def Obligations.RowDuplicationCopiesTheRow : Prop :=
  ∀ (e : Scan) (first last : Nat) (m : Memory), memoryWf m = true → first < last →
    rowAddr e last ≤ 2 ^ 32 →
    let stop := last - (if e.monitor.scanlines then 1 else 0)
    (∀ r k, first < r → r < stop → k < pitch e →
      readByte (duplicateRows e first last m) (rowAddr e r + k) = readByte m (rowAddr e first + k)) ∧
    (∀ x, x < rowAddr e (first + 1) ∨ rowAddr e stop ≤ x → readByte (duplicateRows e first last m) x = readByte m x)

/-- R213 to R242 on the whole command. With `DO_BLOOM = 0` the first row of each line's band holds the line's picture:
its samples, three signal lines below its sync, demodulated with its burst, hue and saturation, equalized, resampled
over the `outw` pixels of the row and converted, all over the integers; where the bands of several lines begin with
one row (`outh < 240`), the lines store one over the other. For any build: every row strictly inside a band, but for the
last one with `scanlines`, equals the band's first row, all `pitch` bytes. -/
def Obligations.DemodulatePaintsThePicture : Prop :=
  ∀ (s t : State) (noise : Word), DemodulateReady s noise → memoryWf s.mem = true → exec (.demodulate noise) s = .next t →
    let off := fieldOffset s t
    let rows := s.output.outh.toNat
    let size := bytesPerPixel s.output.format.toInt
    let pitch := s.output.outw.toNat * size
    (s.cfg.doBloom = false → s.ccf.length = ccVper s.cfg → 0 ≤ s.hsync.toInt → s.hsync.toInt < hres s.cfg →
      0 ≤ s.vsync.toInt → s.vsync.toInt < 262 →
      ∀ k x : Nat, k < 240 → k * rows / 240 + off < rows → x < s.output.outw.toNat →
        let r := k * rows / 240 + off
        let leaves (ci cq : Int) (offset : Nat) : Prop :=
          (readByte t.mem (s.output.base.toNat + r * pitch + x * size + offset)).toNat =
            paintedByte s t ci cq offset r x 240
        leaves 3879 2556 (redOffset s.output.format.toInt) ∧
        leaves (-1126) (-2605) (greenOffset s.output.format.toInt) ∧
        leaves (-4530) 7021 (blueOffset s.output.format.toInt)) ∧
    (∀ k r x : Nat, k < 240 → k * rows / 240 + off < r →
      r < min ((k + 1) * rows / 240 + off) rows - (if s.monitor.scanlines then 1 else 0) → x < pitch →
      readByte t.mem (s.output.base.toNat + r * pitch + x) =
        readByte t.mem (s.output.base.toNat + (k * rows / 240 + off) * pitch + x))

/-- R245: with `outh = 480` and `scanlines = 1` a DEMODULATE of field 0 writes no byte of an odd row, one of field 1
no byte of an even row. -/
def Obligations.FieldsInterleave : Prop :=
  ∀ (s t : State) (noise : Word), DemodulateReady s noise → s.output.outh = 480 → s.monitor.scanlines = true →
    exec (.demodulate noise) s = .next t →
    let pitch := s.output.outw.toNat * bytesPerPixel s.output.format.toInt
    ∀ r x : Nat, r < 480 → x < pitch →
      r % 2 ≠ (if fieldFound s t then 1 else 0) →
      readByte t.mem (s.output.base.toNat + r * pitch + x) = readByte s.mem (s.output.base.toNat + r * pitch + x)

/-- R246, determinism: what DEMODULATE leaves is a function of what R210 lets it read, of `noise` and of host memory.
It does not depend on the old contents of `inp`, the settings bank, `white_point`, the IIR instances or the stage
memory of the equalizers, nor on any free value's being the same in two runs: the free values are functions of the
same reads (assumption 9). -/
def Obligations.DemodulateIgnoresUnreadState : Prop :=
  ∀ (s1 s2 t1 t2 : State) (noise : Word), s1.inp.size = fieldSize s1.cfg → s2.inp.size = fieldSize s2.cfg →
    SameReadByDemodulate s1 s2 → DemodulateReady s1 noise → DemodulateReady s2 noise →
    exec (.demodulate noise) s1 = .next t1 → exec (.demodulate noise) s2 = .next t2 →
    t2.inp = t1.inp ∧ t2.rn = t1.rn ∧ t2.hsync = t1.hsync ∧ t2.vsync = t1.vsync ∧ t2.ccf = t1.ccf ∧ t2.eqY = t1.eqY ∧
      t2.eqI = t1.eqI ∧ t2.eqQ = t1.eqQ ∧ t2.mem = t1.mem

/-! ## The whole machine -/

/-- The state after reset meets the invariant. -/
def Obligations.ResetMeetsTheInvariant : Prop := State.reset.Inv

/-- Every step keeps the invariant: buffer shapes and ranges, the sync seeds, the descriptor, the cause, the
canonical form of host memory (R41 to R44, R48, R205, R246, R281). -/
def Obligations.StepKeepsTheInvariant : Prop := ∀ s t : State, s.Inv → step s = .next t → t.Inv

/-- R41, R42, R45, R46, R48, R50, R54 and R80: which commands may write which state. -/
def Obligations.WritersOfEachPieceOfState : Prop :=
  ∀ (i : Instr) (s t : State), exec i s = .next t →
    (t.mem ≠ s.mem → ∃ noise, i = .demodulate noise) ∧
    (t.analog ≠ s.analog → i = .modulate ∨ ∃ w h f b, i = .init w h f b) ∧
    (t.inp ≠ s.inp ∨ t.rn ≠ s.rn → (∃ noise, i = .demodulate noise) ∨ ∃ w h f b, i = .init w h f b) ∧
    (t.hsync ≠ s.hsync ∨ t.vsync ≠ s.vsync →
      (∃ noise, i = .demodulate noise) ∨ i = .reset ∨ ∃ w h f b, i = .init w h f b) ∧
    (t.ccf ≠ s.ccf → (∃ noise, i = .demodulate noise) ∨ i = .modulate ∨ ∃ w h f b, i = .init w h f b) ∧
    (t.output ≠ s.output → ∃ w h f b, i = .init w h f b ∨ i = .resize w h f b) ∧
    (t.monitor ≠ s.monitor → (∃ reg v, i = .setctl reg v) ∨ i = .reset ∨ ∃ w h f b, i = .init w h f b) ∧
    (t.settings ≠ s.settings → i = .modulate ∨ ∃ reg v, i = .setctl reg v) ∧
    (t.iirY ≠ s.iirY ∨ t.iirI ≠ s.iirI ∨ t.iirQ ≠ s.iirQ → i = .modulate) ∧
    (t.eqY ≠ s.eqY ∨ t.eqI ≠ s.eqI ∨ t.eqQ ≠ s.eqQ →
      (∃ noise, i = .demodulate noise) ∨ ∃ w h f b, i = .init w h f b) ∧
    (t.initialized ≠ s.initialized → t.initialized = true ∧ ∃ w h f b, i = .init w h f b)

/-- R9 and assumption 3: no step changes the configuration or the platform's regions. -/
def Obligations.ConfigurationNeverChanges : Prop :=
  ∀ s t : State, step s = .next t → t.cfg = s.cfg ∧ t.readable = s.readable ∧ t.writable = s.writable
end

