-- ==== Sys2Proof/Laws/Arith.lean ====
section
/-! SUPPORT. The integer meaning of the primitives of R22 to R25, and the rules for loops. -/

namespace Sys2Proof.Machine

/-- `asr` is the floor of the quotient (R23). -/
theorem asr_toInt (v : Word) (k : Nat) : (asr v k).toInt = v.toInt / 2 ^ k := by
  simp [asr, BitVec.toInt_sshiftRight, Int.shiftRight_eq_div_pow]

/-- `tdiv` truncates toward zero; the one quotient that leaves 32 bits wraps (R22, R24). -/
theorem tdiv_toInt (a b : Word) : (tdiv a b).toInt = (a.toInt.tdiv b.toInt).bmod (2 ^ 32) := by
  simp [tdiv, BitVec.toInt_sdiv]

/-- `tmod` is the remainder with the sign of the dividend (R24). -/
theorem tmod_toInt (a b : Word) : (tmod a b).toInt = a.toInt.tmod b.toInt := by
  simp [tmod, BitVec.toInt_srem]

/-- `tdiv` of numbers that are not negative is the quotient of naturals (R24). -/
theorem tdiv_toInt_of_nonneg (a b : Word) (ha : 0 ≤ a.toInt) (hb : 0 < b.toInt) :
    (tdiv a b).toInt = a.toInt / b.toInt := by
  have hle : a.toInt / b.toInt ≤ a.toInt := Int.ediv_le_self _ ha
  have hge : 0 ≤ a.toInt / b.toInt := Int.ediv_nonneg ha hb.le
  have hlt : a.toInt < 2 ^ 31 := BitVec.toInt_lt
  rw [tdiv_toInt, Int.tdiv_eq_ediv_of_nonneg ha]
  exact Int.bmod_eq_of_le (by omega) (by omega)

/-- The truncated remainder is congruent to the number. -/
theorem tmod_emod (x k : Int) : x.tmod k % k = x % k := by
  rw [Int.tmod_def, Int.sub_mul_emod_self_left]

/-- `POSMOD` is the non-negative remainder, in `[0, m)` (R24). -/
theorem posmod_toInt (a m : Word) (h0 : 0 < m.toInt) (h1 : m.toInt < 2 ^ 30) :
    (posmod a m).toInt = a.toInt % m.toInt := by
  have hs : (tmod a m + m).toInt = a.toInt.tmod m.toInt + m.toInt := by
    rw [BitVec.toInt_add, tmod_toInt]
    have hlo := Int.lt_tmod_of_pos a.toInt h0
    have hhi := Int.tmod_lt_of_pos a.toInt h0
    exact Int.bmod_eq_of_le (by omega) (by omega)
  have hnn : 0 ≤ a.toInt.tmod m.toInt + m.toInt := by
    have := Int.lt_tmod_of_pos a.toInt h0
    omega
  rw [posmod, tmod_toInt, hs, Int.tmod_eq_emod_of_nonneg hnn, Int.add_emod_right]
  exact tmod_emod a.toInt m.toInt

theorem posmod_nonneg (a m : Word) (h0 : 0 < m.toInt) (h1 : m.toInt < 2 ^ 30) : 0 ≤ (posmod a m).toInt := by
  rw [posmod_toInt a m h0 h1]
  exact Int.emod_nonneg _ h0.ne'

theorem posmod_lt (a m : Word) (h0 : 0 < m.toInt) (h1 : m.toInt < 2 ^ 30) : (posmod a m).toInt < m.toInt := by
  rw [posmod_toInt a m h0 h1]
  exact Int.emod_lt_of_pos _ h0

/-- A small natural number survives the way through a word. -/
theorem wordOf_toInt (n : Nat) (h : n < 2 ^ 31) : (wordOf n).toInt = n := by
  rw [wordOf, BitVec.toInt_ofNat']
  exact Int.bmod_eq_of_le (by omega) (by omega)

theorem natOf_wordOf (n : Nat) (h : n < 2 ^ 31) : natOf (wordOf n) = n := by
  simp [natOf, wordOf_toInt n h]

/-- `clamp` lands between its bounds (R25). -/
theorem clamp_bounds (v lo hi : Word) (h : lo.toInt ≤ hi.toInt) :
    lo.toInt ≤ (clamp v lo hi).toInt ∧ (clamp v lo hi).toInt ≤ hi.toInt := by
  unfold clamp
  split
  · exact ⟨le_refl _, h⟩
  · split <;> omega

/-- `clamp` leaves a value that is between the bounds (R25). -/
theorem clamp_eq_self (v lo hi : Word) (h0 : lo.toInt ≤ v.toInt) (h1 : v.toInt ≤ hi.toInt) :
    clamp v lo hi = v := by
  unfold clamp
  split
  · omega
  · split
    · omega
    · rfl

/-- `clamp` over the integers (R25). -/
theorem clamp_toInt (v lo hi : Word) (h : lo.toInt ≤ hi.toInt) :
    (clamp v lo hi).toInt = max lo.toInt (min hi.toInt v.toInt) := by
  unfold clamp
  split
  · omega
  · split <;> omega

/-- `v << k` is the wrapped product (R23). -/
theorem shl_toInt (v : Word) (k : Nat) : (shl v k).toInt = (v.toInt * 2 ^ k).bmod (2 ^ 32) := by
  have h : ((2 ^ 32 : Nat) : Int) = 4294967296 := by norm_num
  simp [shl, Nat.shiftLeft_eq, BitVec.toInt_eq_toNat_bmod]
  exact h ▸ Int.emod_bmod _ _

/-- The twelve fraction bits of a position are its remainder (R238). -/
theorem fraction_toInt (p : Word) : (p &&& 0xfff).toInt = p.toInt % 4096 := by
  have h : (p &&& 0xfff).toNat = p.toNat % 4096 := by
    rw [BitVec.toNat_and]
    exact Nat.and_two_pow_sub_one_eq_mod p.toNat 12
  have hp := p.isLt
  rw [BitVec.toInt_eq_toNat_cond, BitVec.toInt_eq_toNat_cond, h]
  split <;> split <;> omega

/-! ## Loops -/

@[simp] theorem loop_zero {σ : Type} (body : Nat → σ → σ) (i : Nat) (acc : σ) : loop body 0 i acc = acc := rfl

@[simp] theorem loop_succ {σ : Type} (body : Nat → σ → σ) (n i : Nat) (acc : σ) :
    loop body (n + 1) i acc = loop body n (i + 1) (body i acc) := rfl

/-- The last round of a loop, split off. -/
theorem loop_snoc {σ : Type} (body : Nat → σ → σ) (n i : Nat) (acc : σ) :
    loop body (n + 1) i acc = body (i + n) (loop body n i acc) := by
  induction n generalizing i acc with
  | zero => rfl
  | succ n ih =>
    rw [loop_succ, ih, loop_succ]
    congr 1
    omega

/-- The loop rule: what holds before, and is kept by every round, holds after. `P k` is what holds when `k`
rounds have run. -/
theorem loop_rule {σ : Type} (body : Nat → σ → σ) (P : Nat → σ → Prop) (n i : Nat) (acc : σ) (h0 : P 0 acc)
    (hstep : ∀ k x, k < n → P k x → P (k + 1) (body (i + k) x)) : P n (loop body n i acc) := by
  induction n with
  | zero => exact h0
  | succ n ih =>
    rw [loop_snoc]
    exact hstep n _ (Nat.lt_succ_self n) (ih fun k x hk => hstep k x (Nat.lt_succ_of_lt hk))

/-- The loop rule for `for i in [a, b)` with one invariant for all rounds (R25). -/
theorem forRange_rule {σ : Type} (a b : Nat) (acc : σ) (body : Nat → σ → σ) (P : σ → Prop) (h0 : P acc)
    (hstep : ∀ i x, a ≤ i → i < b → P x → P (body i x)) : P (forRange a b acc body) :=
  loop_rule body (fun _ x => P x) (b - a) a acc h0 fun k x hk hx => hstep (a + k) x (by omega) (by omega) hx

/-- An empty range runs nothing (R25). -/
theorem forRange_empty {σ : Type} (a b : Nat) (acc : σ) (body : Nat → σ → σ) (h : b ≤ a) :
    forRange a b acc body = acc := by
  simp [forRange, Nat.sub_eq_zero_of_le h]

/-- The last round of a range, split off. -/
theorem forRange_snoc {σ : Type} (a b : Nat) (acc : σ) (body : Nat → σ → σ) (h : a ≤ b) :
    forRange a (b + 1) acc body = body b (forRange a b acc body) := by
  unfold forRange
  rw [Nat.succ_sub h, loop_snoc, Nat.add_sub_cancel' h]

/-! ## Geometry (R10 to R14) -/

theorem hres_cases (c : Config) : hres c = 912 ∨ hres c = 910 := by
  cases h : c.chroma <;> simp [hres, ccLine10, ccSamples, h]

theorem avLen_cases (c : Config) : avLen c = 755 ∨ avLen c = 753 := by
  cases h : c.chroma <;> simp [avLen, ns2pos, lineNs, fpNs, syncNs, bwNs, cbNs, bpNs, avNs, hres, ccLine10, ccSamples, h]

theorem fieldSize_cases (c : Config) : fieldSize c = 238944 ∨ fieldSize c = 238420 := by
  rcases hres_cases c with h | h <;> simp [fieldSize, vres, h]

end Sys2Proof.Machine
end

