-- ==== Sys2Proof/Laws/Buffer.lean ====
section
/-! SUPPORT. Field buffers: a read after a write, and what a run of writes leaves alone (R41, R81, R190). -/

namespace Sys2Proof.Machine

@[simp] theorem size_putSample (b : Buffer) (i : Nat) (v : Word) : (putSample b i v).size = b.size := by
  simp [putSample]

/-- A read after a write (R41). -/
theorem sample_putSample (b : Buffer) (i j : Nat) (v : Word) :
    sample (putSample b i v) j = if i = j ∧ i < b.size then sext8 (v.setWidth 8) else sample b j := by
  unfold sample putSample
  simp only [Array.getD_eq_getD_getElem?, Array.getElem?_setIfInBounds]
  by_cases h : i = j
  · subst h
    by_cases hi : i < b.size
    · simp [hi]
    · simp [hi]
  · simp [h]

/-- A write leaves the other samples alone (R41). -/
theorem sample_putSample_ne (b : Buffer) (i j : Nat) (v : Word) (h : i ≠ j) :
    sample (putSample b i v) j = sample b j := by
  rw [sample_putSample, if_neg fun hc => h hc.1]

/-- A value of the signed 8-bit range survives the write (R41: "no write ever wraps"). -/
theorem sext8_setWidth (v : Word) (h0 : -128 ≤ v.toInt) (h1 : v.toInt ≤ 127) : sext8 (v.setWidth 8) = v := by
  apply BitVec.eq_of_toInt_eq
  rw [sext8, BitVec.toInt_signExtend_of_le (by decide)]
  rw [BitVec.toInt_setWidth]
  have hlt : v.toNat < 2 ^ 32 := v.isLt
  rw [BitVec.toInt_eq_toNat_cond] at h0 h1 ⊢
  rw [Int.bmod_def]
  split at h0 <;> split <;> omega

@[simp] theorem size_fillLine (base t0 t1 : Nat) (v : Word) (b : Buffer) :
    (fillLine base t0 t1 v b).size = b.size :=
  forRange_rule t0 t1 b _ (fun x => x.size = b.size) rfl fun i x _ _ hx => by rw [size_putSample, hx]

/-- Outside `[base + t0, base + t1)` a fill writes nothing (R190). -/
theorem sample_fillLine_outside (base t0 t1 : Nat) (v : Word) (b : Buffer) (j : Nat)
    (h : j < base + t0 ∨ base + t1 ≤ j) : sample (fillLine base t0 t1 v b) j = sample b j :=
  forRange_rule t0 t1 b _ (fun x => sample x j = sample b j) rfl fun i x _ _ hx => by
    rw [sample_putSample_ne _ _ _ _ (by omega), hx]

/-- Inside, a fill leaves its value (R190). -/
theorem sample_fillLine_inside (base t0 t1 : Nat) (v : Word) (b : Buffer) (j : Nat)
    (h0 : base + t0 ≤ j) (h1 : j < base + t1) (hsz : j < b.size) :
    sample (fillLine base t0 t1 v b) j = sext8 (v.setWidth 8) := by
  have key : ∀ k, k ≤ t1 - t0 → base + t0 + k > j →
      sample (loop (fun t b => putSample b (base + t) v) k t0 b) j = sext8 (v.setWidth 8) ∧
        (loop (fun t b => putSample b (base + t) v) k t0 b).size = b.size := by
    intro k
    induction k with
    | zero => intro _ h; omega
    | succ k ih =>
      intro hk hj
      have hsize : (loop (fun t b => putSample b (base + t) v) k t0 b).size = b.size :=
        loop_rule _ (fun _ x => x.size = b.size) k t0 b rfl fun _ x _ hx => by rw [size_putSample, hx]
      rw [loop_snoc]
      refine ⟨?_, by rw [size_putSample, hsize]⟩
      rw [sample_putSample, hsize]
      by_cases he : base + (t0 + k) = j
      · rw [if_pos ⟨he, by omega⟩]
      · rw [if_neg fun hc => he hc.1]
        exact (ih (by omega) (by omega)).1
  exact (key (t1 - t0) (le_refl _) (by omega)).1

end Sys2Proof.Machine
end

