-- ==== Sys2Proof/Laws/Control.lean ====
section
/-! SUPPORT. The control registers: reading what was written (R49, R270, R271). -/

namespace Sys2Proof.Machine

/-- A legal 1-bit value is read back as written (R49). -/
theorem bit_flagOf (v : Word) (h : isBit v = true) : bit (flagOf v) = v := by
  simp only [isBit, Bool.or_eq_true, decide_eq_true_eq] at h
  rcases h with rfl | rfl <;> rfl

/-- What is written to a writable register is read from it (R270, R271). -/
theorem readCtl_writeCtl_same (s : State) (v : Word) (r : CtlReg) (hro : r.readOnly = false)
    (hv : r.isFlag = true → isBit v = true) : readCtl (writeCtl s v r) r = v := by
  cases r <;> first
    | exact absurd hro Bool.noConfusion
    | rfl
    | exact bit_flagOf v (hv rfl)

/-- SETCTL writes one register (R270): every other register reads as before. -/
theorem readCtl_writeCtl_other (s : State) (v : Word) (r r' : CtlReg) (h : r ≠ r') :
    readCtl (writeCtl s v r) r' = readCtl s r' := by
  cases r <;> first
    | rfl
    | (cases r' <;> first | rfl | exact absurd rfl h)

/-- A read-only register is never changed by `writeCtl`. -/
theorem writeCtl_readOnly (s : State) (v : Word) (r : CtlReg) (h : r.readOnly = true) : writeCtl s v r = s := by
  cases r <;> first | rfl | exact absurd h Bool.noConfusion

end Sys2Proof.Machine
end

