-- ==== Sys2Proof/Laws/Decode.lean ====
section
/-! SUPPORT. The fields of an encoded header and the shape of an encoded command (R111 to R115). -/

namespace Sys2Proof

/-- The header of an opcode and a register number carries both (R111). -/
theorem header_toNat (op reg : Nat) (h : op < 256) : (header op reg).toNat = op * 2 ^ 24 + reg % 2 ^ 8 := by
  rw [header, BitVec.toNat_ofNat, Nat.mod_eq_of_lt]
  omega

@[simp] theorem opcodeOf_header (op reg : Nat) (h : op < 256) : opcodeOf (header op reg) = op := by
  rw [opcodeOf, header_toNat op reg h]
  omega

@[simp] theorem imm24Of_header (op reg : Nat) (h : op < 256) : imm24Of (header op reg) = reg % 2 ^ 8 := by
  rw [imm24Of, header_toNat op reg h]
  omega

@[simp] theorem regOf_header (op reg : Nat) (h : op < 256) : regOf (header op reg) = reg % 2 ^ 8 := by
  rw [regOf, header_toNat op reg h]
  omega

/-- What decode answers on a legal header (R117): what reading its operand words answers. -/
theorem decode_cons (hdr : Word) (ws : List Word) (f : Format) (hf : formatOf (opcodeOf hdr) = some f)
    (hz : reservedZero f hdr = true) : decode (hdr :: ws) = decodeOperands (opcodeOf hdr) (regOf hdr) ws := by
  simp [decode, hf, hz]

end Sys2Proof
end

