-- ==== Sys2Proof/Laws/Filters.lean ====
section
/-! SUPPORT. Fixed points of the filter stages and the constants of R161 and R166. -/

namespace Sys2Proof.Machine

/-- A stage that holds its input stays (R168): the rounding constant alone shifts to 0. -/
@[simp] theorem eqStage_self (k x : Word) : eqStage k x x = x := by
  simp [eqStage, asr]

/-- One stage over the integers (R168): the rounding constant is inside the shift. -/
theorem eqStage_toInt (k x f : Word) : (eqStage k x f).toInt =
    (f.toInt + (k.toInt * (x.toInt - f.toInt) + 32768).bmod (2 ^ 32) / 2 ^ 16).bmod (2 ^ 32) := by
  have h : (32768 : Word).toInt = 32768 := by decide
  rw [eqStage, BitVec.toInt_add, asr_toInt, BitVec.toInt_add, BitVec.toInt_mul, BitVec.toInt_sub, h]
  simp only [Int.bmod_add_bmod, Int.mul_bmod_bmod]

/-- One band of the output over the integers (R168): a gain product floors, without a rounding constant. -/
theorem eqBand_toInt (v g : Word) : (asr (v * g) 16).toInt = (v.toInt * g.toInt).bmod (2 ^ 32) / 2 ^ 16 := by
  rw [asr_toInt, BitVec.toInt_mul]

/-- IIR_STEP keeps the coefficient (R163). -/
@[simp] theorem iirStep_c (f : Iir) (s : Word) : (iirStep f s).c = f.c := rfl

/-- IIR_RESET clears the history only (R162). -/
@[simp] theorem iirReset_h (f : Iir) : (iirReset f).h = 0 := rfl
@[simp] theorem iirReset_c (f : Iir) : (iirReset f).c = f.c := rfl

/-- EQ_RESET keeps the coefficients (R167). -/
@[simp] theorem eqReset_lf (f : Equalizer) : (eqReset f).lf = f.lf := rfl
@[simp] theorem eqReset_hf (f : Equalizer) : (eqReset f).hf = f.hf := rfl
@[simp] theorem eqReset_g0 (f : Equalizer) : (eqReset f).g0 = f.g0 := rfl
@[simp] theorem eqReset_g1 (f : Equalizer) : (eqReset f).g1 = f.g1 := rfl
@[simp] theorem eqReset_g2 (f : Equalizer) : (eqReset f).g2 = f.g2 := rfl

/-- EQ_STEP keeps the coefficients (R168). -/
@[simp] theorem eqStep_lf (f : Equalizer) (s : Word) : (eqStep f s).lf = f.lf := by rw [eqStep]
@[simp] theorem eqStep_hf (f : Equalizer) (s : Word) : (eqStep f s).hf = f.hf := by rw [eqStep]
@[simp] theorem eqStep_g0 (f : Equalizer) (s : Word) : (eqStep f s).g0 = f.g0 := by rw [eqStep]
@[simp] theorem eqStep_g1 (f : Equalizer) (s : Word) : (eqStep f s).g1 = f.g1 := by rw [eqStep]
@[simp] theorem eqStep_g2 (f : Equalizer) (s : Word) : (eqStep f s).g2 = f.g2 := by rw [eqStep]

end Sys2Proof.Machine
end

