-- ==== Sys2Proof/Laws/Memory.lean ====
section
/-! SUPPORT. Host memory: a read after a write, the canonical form, windows, and the platform's predicates
(R82, R83). -/

namespace Sys2Proof.Machine

/-! ## The canonical form -/

theorem memoryWfFrom_mono (lo lo' : Nat) (m : Memory) (h : lo' ≤ lo) (hm : memoryWfFrom lo m = true) :
    memoryWfFrom lo' m = true := by
  cases m with
  | nil => rfl
  | cons c rest =>
    simp only [memoryWfFrom, Bool.and_eq_true, decide_eq_true_eq] at hm ⊢
    exact ⟨⟨⟨by omega, hm.1.1.2⟩, hm.1.2⟩, hm.2⟩

theorem memoryWfFrom_insertByte (lo : Nat) (m : Memory) (a : Nat) (b : Byte) (hlo : lo ≤ a)
    (ha : a < addressSpace) (hb : b ≠ unlistedByte) (hm : memoryWfFrom lo m = true) :
    memoryWfFrom lo (insertByte m a b) = true := by
  induction m generalizing lo with
  | nil => simp [insertByte, memoryWfFrom, hlo, ha, hb]
  | cons c rest ih =>
    obtain ⟨k, v⟩ := c
    simp only [memoryWfFrom, Bool.and_eq_true, decide_eq_true_eq] at hm
    obtain ⟨⟨⟨h1, h2⟩, h3⟩, h4⟩ := hm
    unfold insertByte
    split
    · simp only [memoryWfFrom, Bool.and_eq_true, decide_eq_true_eq]
      exact ⟨⟨⟨hlo, ha⟩, hb⟩, ⟨⟨by omega, h2⟩, h3⟩, h4⟩
    · split
      · next he =>
        subst he
        simp only [memoryWfFrom, Bool.and_eq_true, decide_eq_true_eq]
        exact ⟨⟨⟨hlo, ha⟩, hb⟩, h4⟩
      · simp only [memoryWfFrom, Bool.and_eq_true, decide_eq_true_eq]
        exact ⟨⟨⟨h1, h2⟩, h3⟩, ih (k + 1) (by omega) h4⟩

theorem memoryWfFrom_eraseByte (lo : Nat) (m : Memory) (a : Nat) (hm : memoryWfFrom lo m = true) :
    memoryWfFrom lo (eraseByte m a) = true := by
  induction m generalizing lo with
  | nil => rfl
  | cons c rest ih =>
    obtain ⟨k, v⟩ := c
    simp only [memoryWfFrom, Bool.and_eq_true, decide_eq_true_eq] at hm
    obtain ⟨⟨⟨h1, h2⟩, h3⟩, h4⟩ := hm
    unfold eraseByte
    split
    · exact memoryWfFrom_mono (k + 1) lo rest (by omega) h4
    · simp only [memoryWfFrom, Bool.and_eq_true, decide_eq_true_eq]
      exact ⟨⟨⟨h1, h2⟩, h3⟩, ih (k + 1) h4⟩

/-- Every write keeps the canonical form (R83). -/
theorem memoryWf_writeByte (m : Memory) (a : Nat) (b : Byte) (ha : a < addressSpace) (hm : memoryWf m = true) :
    memoryWf (writeByte m a b) = true := by
  unfold writeByte memoryWf
  split
  · exact memoryWfFrom_eraseByte 0 m a hm
  · next hb => exact memoryWfFrom_insertByte 0 m a b (Nat.zero_le a) ha hb hm

/-! ## Reads -/

/-- Below the first address of a canonical list nothing is listed. -/
theorem readByte_below (lo : Nat) (m : Memory) (a : Nat) (h : a < lo) (hm : memoryWfFrom lo m = true) :
    readByte m a = unlistedByte := by
  induction m generalizing lo with
  | nil => rfl
  | cons c rest ih =>
    obtain ⟨k, v⟩ := c
    simp only [memoryWfFrom, Bool.and_eq_true, decide_eq_true_eq] at hm
    unfold readByte
    rw [if_neg (by omega)]
    exact ih (k + 1) (by omega) hm.2

theorem readByte_insertByte (m : Memory) (a x : Nat) (b : Byte) :
    readByte (insertByte m a b) x = if a = x then b else readByte m x := by
  induction m with
  | nil => simp [insertByte, readByte]
  | cons c rest ih =>
    obtain ⟨k, v⟩ := c
    unfold insertByte
    split
    · simp [readByte]
    · split
      · next he =>
        subst he
        simp only [readByte]
        split <;> rfl
      · next hne =>
        simp only [readByte, ih]
        by_cases hk : k = x
        · simp [hk]
          intro h; omega
        · simp [hk]

theorem readByte_eraseByte (lo : Nat) (m : Memory) (a x : Nat) (hm : memoryWfFrom lo m = true) :
    readByte (eraseByte m a) x = if a = x then unlistedByte else readByte m x := by
  induction m generalizing lo with
  | nil => simp [eraseByte, readByte]
  | cons c rest ih =>
    obtain ⟨k, v⟩ := c
    simp only [memoryWfFrom, Bool.and_eq_true, decide_eq_true_eq] at hm
    unfold eraseByte
    split
    · next he =>
      subst he
      by_cases hx : a = x
      · subst hx
        rw [if_pos rfl]
        exact readByte_below (a + 1) rest a (Nat.lt_succ_self a) hm.2
      · simp [readByte, hx]
    · next hne =>
      simp only [readByte, ih (k + 1) hm.2]
      by_cases hk : k = x
      · have : a ≠ x := by omega
        simp [hk, this]
      · simp [hk]

/-- A read after a write (R83): the byte written at its address, every other byte as before. -/
theorem readByte_writeByte (m : Memory) (a x : Nat) (b : Byte) (hm : memoryWf m = true) :
    readByte (writeByte m a b) x = if a = x then b else readByte m x := by
  unfold writeByte
  split
  · next hb => rw [readByte_eraseByte 0 m a x hm, hb]
  · exact readByte_insertByte m a x b

/-- A write leaves every other byte alone, in any list of cells (R83). -/
theorem readByte_writeByte_ne (m : Memory) (a x : Nat) (b : Byte) (h : a ≠ x) :
    readByte (writeByte m a b) x = readByte m x := by
  unfold writeByte
  split
  · clear * - h
    induction m with
    | nil => rfl
    | cons c rest ih =>
      obtain ⟨k, v⟩ := c
      unfold eraseByte
      split
      · next he => rw [readByte, if_neg (by omega)]
      · simp only [readByte, ih]
  · rw [readByte_insertByte, if_neg h]

/-- Reading in a window is reading in memory. -/
theorem readByte_window (m : Memory) (a n x : Nat) (h0 : a ≤ x) (h1 : x < a + n) :
    readByte (window m a n) x = readByte m x := by
  unfold window
  induction m with
  | nil => rfl
  | cons c rest ih =>
    obtain ⟨k, v⟩ := c
    by_cases hin : a ≤ k ∧ k < a + n
    · rw [List.filter_cons_of_pos (by simpa using hin)]
      simp only [readByte, ih]
    · rw [List.filter_cons_of_neg (by simpa using hin), ih, readByte, if_neg]
      omega

/-! ## The platform's predicates -/

theorem inRegions_iff (rs : List Region) (a : Nat) :
    inRegions rs a = true ↔ ∃ r ∈ rs, r.base ≤ a ∧ a < r.base + r.size := by
  simp [inRegions, inRegion]

/-- `covers` says of every byte of the range that some region holds it (R82). -/
theorem covers_iff (rs : List Region) (a n : Nat) :
    covers rs a n = true ↔ ∀ x, a ≤ x → x < a + n → inRegions rs x = true := by
  constructor
  · intro h x hx0 hx1
    obtain ⟨d, rfl⟩ := Nat.exists_eq_add_of_le hx0
    clear hx0
    unfold covers at h
    rw [List.all_eq_true] at h
    induction d with
    | zero =>
      have := h a (by simp)
      simp only [Bool.or_eq_true, decide_eq_true_eq] at this
      rcases this with (hc | hc) | hc
      · omega
      · omega
      · simpa using hc
    | succ d ih =>
      obtain ⟨r, hr, h1, h2⟩ := (inRegions_iff rs (a + d)).mp (ih (by omega))
      by_cases he : a + (d + 1) = r.base + r.size
      · have := h (r.base + r.size) (by
          simp only [List.mem_cons, List.mem_map]
          exact Or.inr ⟨r, hr, rfl⟩)
        simp only [Bool.or_eq_true, decide_eq_true_eq] at this
        rcases this with (hc | hc) | hc
        · omega
        · omega
        · rw [he]; exact hc
      · exact (inRegions_iff rs _).mpr ⟨r, hr, by omega, by omega⟩
  · intro h
    unfold covers
    rw [List.all_eq_true]
    intro p _
    simp only [Bool.or_eq_true, decide_eq_true_eq]
    by_cases h0 : p < a
    · exact Or.inl (Or.inl h0)
    · by_cases h1 : a + n ≤ p
      · exact Or.inl (Or.inr h1)
      · exact Or.inr (h p (by omega) (by omega))

/-- `Readable` and `Writable` (R82): the range is inside the address space and every byte is admitted. -/
theorem admits_iff (rs : List Region) (a n : Nat) :
    admits rs a n = true ↔ a + n ≤ addressSpace ∧ ∀ x, a ≤ x → x < a + n → inRegions rs x = true := by
  simp only [admits, Bool.and_eq_true, decide_eq_true_eq, covers_iff]

/-! ## Pixels -/

/-- The three channel offsets of a format are different and inside the pixel (R84). -/
theorem offsets_sound (f : PixelFormat) :
    f.rOff < f.bytes ∧ f.gOff < f.bytes ∧ f.bOff < f.bytes ∧ f.rOff ≠ f.gOff ∧ f.rOff ≠ f.bOff ∧ f.gOff ≠ f.bOff := by
  cases f <;> decide

/-- A pixel write leaves every byte outside the pixel alone (R241). -/
theorem readByte_writePixel_outside (m : Memory) (f : PixelFormat) (a x : Nat) (p : Rgb)
    (h : x < a ∨ a + f.bytes ≤ x) : readByte (writePixel m f a p) x = readByte m x := by
  obtain ⟨h1, h2, h3, -⟩ := offsets_sound f
  unfold writePixel
  rw [readByte_writeByte_ne _ _ _ _ (by omega), readByte_writeByte_ne _ _ _ _ (by omega),
    readByte_writeByte_ne _ _ _ _ (by omega)]

/-- A pixel write keeps the canonical form (R241). -/
theorem memoryWf_writePixel (m : Memory) (f : PixelFormat) (a : Nat) (p : Rgb) (ha : a + f.bytes ≤ addressSpace)
    (hm : memoryWf m = true) : memoryWf (writePixel m f a p) = true := by
  obtain ⟨h1, h2, h3, -⟩ := offsets_sound f
  unfold writePixel
  exact memoryWf_writeByte _ _ _ (by omega) (memoryWf_writeByte _ _ _ (by omega)
    (memoryWf_writeByte _ _ _ (by omega) hm))

end Sys2Proof.Machine
end

