-- ==== Sys2Proof/Laws/Ops.lean ====
section
/-! SUPPORT. What each shared operation can do, said once: the ends of a command, the entry checks, and the
port. Provers cite these instead of unfolding the meanings. -/

namespace Sys2Proof.Machine

/-! ## The ends of a command -/

theorem respondOk_next (r0 r1 : Word) (s t : State) (h : respondOk r0 r1 s = .next t) : t = answered r0 r1 s := by
  simpa [respondOk] using h.symm

theorem raiseFault_next (c : Cause) (s t : State) (h : raiseFault c s = .next t) : t = faulted c s := by
  simpa [raiseFault] using h.symm

/-- The codes of R281 are 1 to 5. -/
theorem code_range (c : Cause) : 1 ≤ c.code.toNat ∧ c.code.toNat ≤ 5 := by
  cases c <;> decide

/-! ## What each command can answer -/

/-- INIT (R261): two ends. -/
theorem execInit_cases (w h f b : Word) (s : State) :
    (descriptorOk w h f b = true ∧ execInit w h f b s = .next (answered 0 0 (initCrt w h f b s))) ∨
    (descriptorOk w h f b = false ∧ execInit w h f b s = .next (faulted .illegalOperand s)) := by
  unfold execInit
  cases descriptorOk w h f b <;> simp [respondOk, raiseFault]

/-- RESIZE (R264): three ends. -/
theorem execResize_cases (w h f b : Word) (s : State) :
    (s.initialized = false ∧ execResize w h f b s = .next (faulted .notInitialized s)) ∨
    (s.initialized = true ∧ descriptorOk w h f b = true ∧
      execResize w h f b s = .next (answered 0 0 (setOutput w h f b s))) ∨
    (s.initialized = true ∧ descriptorOk w h f b = false ∧
      execResize w h f b s = .next (faulted .illegalOperand s)) := by
  unfold execResize needsInit
  cases s.initialized <;> cases descriptorOk w h f b <;> simp [respondOk, raiseFault]

/-- RESET (R265): two ends. -/
theorem execReset_cases (s : State) :
    (s.initialized = false ∧ execReset s = .next (faulted .notInitialized s)) ∨
    (s.initialized = true ∧ execReset s = .next (answered 0 0 (resetMonitor s))) := by
  unfold execReset needsInit
  cases s.initialized <;> simp [respondOk, raiseFault]

/-- MODULATE (R182, R186): NOT_INITIALIZED, the unsupported format, a failed entry check, or the field. -/
theorem execModulate_cases (s : State) :
    (s.initialized = false ∧ execModulate s = .next (faulted .notInitialized s)) ∨
    (s.initialized = true ∧ pixelFormat? s.settings.format = none ∧
      execModulate s = .next (answered 0 0 (initIirs s))) ∨
    (∃ f c, s.initialized = true ∧ pixelFormat? s.settings.format = some f ∧ modulateCheck s f.bytes = some c ∧
      execModulate s = .next (faulted c s)) ∨
    (∃ f, s.initialized = true ∧ pixelFormat? s.settings.format = some f ∧ modulateCheck s f.bytes = none ∧
      execModulate s = .next (answered 0 0 (modulateField f (initIirs s)))) := by
  unfold execModulate needsInit
  cases hi : s.initialized
  · exact Or.inl ⟨rfl, by simp [raiseFault]⟩
  · cases hf : pixelFormat? s.settings.format with
    | none => exact Or.inr (Or.inl ⟨rfl, rfl, by simp [respondOk]⟩)
    | some f =>
      cases hc : modulateCheck s f.bytes with
      | some c => exact Or.inr (Or.inr (Or.inl ⟨f, c, rfl, rfl, hc, by simp [hc, raiseFault]⟩))
      | none => exact Or.inr (Or.inr (Or.inr ⟨f, rfl, rfl, hc, by simp [hc, respondOk]⟩))

/-- DEMODULATE (R211): NOT_INITIALIZED, a negative noise level, the unsupported format, a region the platform
refuses, or the field. -/
theorem execDemodulate_cases (noise : Word) (s : State) :
    (s.initialized = false ∧ execDemodulate noise s = .next (faulted .notInitialized s)) ∨
    (s.initialized = true ∧ noise.toInt < 0 ∧ execDemodulate noise s = .next (faulted .illegalOperand s)) ∨
    (s.initialized = true ∧ 0 ≤ noise.toInt ∧ pixelFormat? s.output.format = none ∧
      execDemodulate noise s = .next (answered 0 0 s)) ∨
    (∃ f, s.initialized = true ∧ 0 ≤ noise.toInt ∧ pixelFormat? s.output.format = some f ∧
      (admits s.writable s.output.base.toNat (outputBytes s f) &&
        admits s.readable s.output.base.toNat (outputBytes s f)) = false ∧
      execDemodulate noise s = .next (faulted .memFault s)) ∨
    (∃ f, s.initialized = true ∧ 0 ≤ noise.toInt ∧ pixelFormat? s.output.format = some f ∧
      admits s.writable s.output.base.toNat (outputBytes s f) = true ∧
      admits s.readable s.output.base.toNat (outputBytes s f) = true ∧
      execDemodulate noise s = .next (answered 0 0 (demodulateField f noise s))) := by
  unfold execDemodulate needsInit
  cases hi : s.initialized
  · exact Or.inl ⟨rfl, by simp [raiseFault]⟩
  · by_cases hn : noise.toInt < 0
    · exact Or.inr (Or.inl ⟨rfl, hn, by simp [hn, raiseFault]⟩)
    · have hn' : 0 ≤ noise.toInt := by omega
      cases hf : pixelFormat? s.output.format with
      | none => exact Or.inr (Or.inr (Or.inl ⟨rfl, hn', rfl, by simp [hn, respondOk]⟩))
      | some f =>
        cases hw : admits s.writable s.output.base.toNat (outputBytes s f)
        · exact Or.inr (Or.inr (Or.inr (Or.inl ⟨f, rfl, hn', rfl, by simp [hw], by simp [hn, hw, raiseFault]⟩)))
        · cases hr : admits s.readable s.output.base.toNat (outputBytes s f)
          · exact Or.inr (Or.inr (Or.inr (Or.inl
              ⟨f, rfl, hn', rfl, by simp [hw, hr], by simp [hn, hw, hr, raiseFault]⟩)))
          · exact Or.inr (Or.inr (Or.inr (Or.inr
              ⟨f, rfl, hn', rfl, hw, hr, by simp [hn, hw, hr, respondOk]⟩)))

/-- SETCTL to an implemented register (R270): three ends. -/
theorem setRegister_cases (r : CtlReg) (v : Word) (s : State) :
    (r.readOnly = true ∧ setRegister r v s = .next (faulted .illegalRegister s)) ∨
    (r.readOnly = false ∧ r.isFlag = true ∧ isBit v = false ∧
      setRegister r v s = .next (faulted .illegalOperand s)) ∨
    (r.readOnly = false ∧ (r.isFlag = false ∨ isBit v = true) ∧
      setRegister r v s = .next (answered 0 0 (writeCtl s v r))) := by
  unfold setRegister
  cases r.readOnly <;> cases r.isFlag <;> cases isBit v <;> simp [respondOk, raiseFault]

/-- SETCTL (R270): an unimplemented number, or an implemented register. -/
theorem execSetctl_cases (reg : Nat) (v : Word) (s : State) :
    (ctlReg? s.cfg reg = none ∧ execSetctl reg v s = .next (faulted .illegalRegister s)) ∨
    (∃ r, ctlReg? s.cfg reg = some r ∧ execSetctl reg v s = setRegister r v s) := by
  unfold execSetctl
  cases h : ctlReg? s.cfg reg with
  | none => exact Or.inl ⟨rfl, by simp [raiseFault]⟩
  | some r => exact Or.inr ⟨r, rfl, by simp⟩

/-- GETCTL (R271): two ends. -/
theorem execGetctl_cases (reg : Nat) (s : State) :
    (ctlReg? s.cfg reg = none ∧ execGetctl reg s = .next (faulted .illegalRegister s)) ∨
    (∃ r, ctlReg? s.cfg reg = some r ∧ execGetctl reg s = .next (answered (readCtl s r) 0 s)) := by
  unfold execGetctl
  cases h : ctlReg? s.cfg reg with
  | none => exact Or.inl ⟨rfl, by simp [raiseFault]⟩
  | some r => exact Or.inr ⟨r, rfl, by simp [respondOk]⟩

/-! ## The port and the step -/

/-- What the port can give (R117, R284, R300). -/
theorem accept_cases (s : State) :
    (s.resetInput = true ∧ accept s = .done (powerOnReset s)) ∨
    (s.resetInput = false ∧ s.fault ≠ 0 ∧ s.port = [] ∧ accept s = .wait .portEmpty) ∨
    (∃ w rest, s.resetInput = false ∧ s.fault ≠ 0 ∧ s.port = w :: rest ∧
      accept s = .done (refuseFaulted (consume s rest))) ∨
    (∃ i rest, s.resetInput = false ∧ s.fault = 0 ∧ decode s.port = .ok (i, rest) ∧
      accept s = .run i (consume s rest)) ∨
    (∃ e, s.resetInput = false ∧ s.fault = 0 ∧ decode s.port = .error e ∧
      ((e = .noHeader ∧ accept s = .wait .portEmpty) ∨
       (e = .operandsMissing ∧ accept s = .wait .operandsMissing) ∨
       ((e = .illegalOpcode ∨ e = .reservedBits) ∧
         accept s = .done (faulted .illegalCommand (consume s s.port.tail))))) := by
  unfold accept
  cases hr : s.resetInput
  · by_cases hf : s.fault = 0
    · unfold acceptCommand
      cases hd : decode s.port with
      | ok x =>
        exact Or.inr (Or.inr (Or.inr (Or.inl ⟨x.1, x.2, rfl, hf, by simp, by simp [hf]⟩)))
      | error e =>
        refine Or.inr (Or.inr (Or.inr (Or.inr ⟨e, rfl, hf, by simp, ?_⟩)))
        cases e <;> simp [hf]
    · unfold acceptFaulted
      cases hp : s.port with
      | nil => exact Or.inr (Or.inl ⟨rfl, hf, by simp, by simp; exact fun h => absurd h hf⟩)
      | cons w rest => exact Or.inr (Or.inr (Or.inl ⟨w, rest, rfl, hf, by simp, by simp; exact fun h => absurd h hf⟩))
  · exact Or.inl ⟨rfl, by simp⟩

/-- What a step that ends in a next state did: power-on reset, a refused word, a decode fault, or a command. -/
theorem step_cases (s t : State) (h : step s = .next t) :
    (s.resetInput = true ∧ t = powerOnReset s) ∨
    (∃ w rest, s.resetInput = false ∧ s.fault ≠ 0 ∧ s.port = w :: rest ∧ t = refuseFaulted (consume s rest)) ∨
    (s.resetInput = false ∧ s.fault = 0 ∧ t = faulted .illegalCommand (consume s s.port.tail)) ∨
    (∃ i rest, s.resetInput = false ∧ s.fault = 0 ∧ decode s.port = .ok (i, rest) ∧
      exec i (consume s rest) = .next t) := by
  unfold step at h
  rcases accept_cases s with ⟨hr, ha⟩ | ⟨_, _, _, ha⟩ | ⟨w, rest, hr, hf, hp, ha⟩ | ⟨i, rest, hr, hf, hd, ha⟩ |
    ⟨e, hr, hf, _, ⟨_, ha⟩ | ⟨_, ha⟩ | ⟨_, ha⟩⟩ <;> rw [ha] at h
  · exact Or.inl ⟨hr, by simpa using h.symm⟩
  · cases h
  · exact Or.inr (Or.inl ⟨w, rest, hr, hf, hp, by simpa using h.symm⟩)
  · exact Or.inr (Or.inr (Or.inr ⟨i, rest, hr, hf, hd, h⟩))
  · cases h
  · cases h
  · exact Or.inr (Or.inr (Or.inl ⟨hr, hf, by simpa using h.symm⟩))

end Sys2Proof.Machine
end

