-- ==== Sys2Proof/Laws/PerInstr.lean ====
section
/-! SUPPORT. The family EncodeLength: what R114 says of every command. -/

namespace Sys2Proof.Laws.EncodeLength

/-- The words of a command are as many as its format has, its header first, and the length the block reads off
that header is the same (R113, R114). -/
def Statement (i : Instr) : Prop :=
  (encode i).length = 1 + i.format.operands ∧ commandLength ((encode i).headD 0) = (encode i).length ∧
    formatOf (opcodeOf ((encode i).headD 0)) = some i.format

/-- Every member of the family follows from its header's opcode. -/
theorem of_header (i : Instr) (op reg : Nat) (h : op < 256) (hd : (encode i).headD 0 = header op reg)
    (hf : formatOf op = some i.format) (hl : (encode i).length = 1 + i.format.operands) : Statement i := by
  refine ⟨hl, ?_, ?_⟩
  · rw [hd, commandLength, opcodeOf_header op reg h, hf, hl]
  · rw [hd, opcodeOf_header op reg h, hf]

theorem init (w h f b : Word) : Statement (.init w h f b) := of_header _ 0x01 0 (by decide) rfl rfl rfl
theorem resize (w h f b : Word) : Statement (.resize w h f b) := of_header _ 0x02 0 (by decide) rfl rfl rfl
theorem reset : Statement .reset := of_header _ 0x03 0 (by decide) rfl rfl rfl
theorem modulate : Statement .modulate := of_header _ 0x04 0 (by decide) rfl rfl rfl
theorem demodulate (noise : Word) : Statement (.demodulate noise) := of_header _ 0x05 0 (by decide) rfl rfl rfl
theorem bpp4fmt (format : Word) : Statement (.bpp4fmt format) := of_header _ 0x06 0 (by decide) rfl rfl rfl
theorem sincos14 (angle : Word) : Statement (.sincos14 angle) := of_header _ 0x07 0 (by decide) rfl rfl rfl
theorem setctl (reg : Nat) (value : Word) : Statement (.setctl reg value) :=
  of_header _ 0x08 reg (by decide) rfl rfl rfl
theorem getctl (reg : Nat) : Statement (.getctl reg) := of_header _ 0x09 reg (by decide) rfl rfl rfl

end Sys2Proof.Laws.EncodeLength
end

