-- ==== Sys2Proof/Laws/State.lean ====
section
/-! SUPPORT. One lemma per field for each named update of the state, true by `rfl` (Machine/State.lean): a proof
reads a field of an updated state by `simp` and never unfolds the update. -/

namespace Sys2Proof.Machine

/-! ## `answered` -/

@[simp] theorem answered_cfg (r0 r1 : Word) (s : State) : (answered r0 r1 s).cfg = s.cfg := rfl
@[simp] theorem answered_analog (r0 r1 : Word) (s : State) : (answered r0 r1 s).analog = s.analog := rfl
@[simp] theorem answered_inp (r0 r1 : Word) (s : State) : (answered r0 r1 s).inp = s.inp := rfl
@[simp] theorem answered_ccf (r0 r1 : Word) (s : State) : (answered r0 r1 s).ccf = s.ccf := rfl
@[simp] theorem answered_hsync (r0 r1 : Word) (s : State) : (answered r0 r1 s).hsync = s.hsync := rfl
@[simp] theorem answered_vsync (r0 r1 : Word) (s : State) : (answered r0 r1 s).vsync = s.vsync := rfl
@[simp] theorem answered_rn (r0 r1 : Word) (s : State) : (answered r0 r1 s).rn = s.rn := rfl
@[simp] theorem answered_monitor (r0 r1 : Word) (s : State) : (answered r0 r1 s).monitor = s.monitor := rfl
@[simp] theorem answered_output (r0 r1 : Word) (s : State) : (answered r0 r1 s).output = s.output := rfl
@[simp] theorem answered_settings (r0 r1 : Word) (s : State) : (answered r0 r1 s).settings = s.settings := rfl
@[simp] theorem answered_iirY (r0 r1 : Word) (s : State) : (answered r0 r1 s).iirY = s.iirY := rfl
@[simp] theorem answered_iirI (r0 r1 : Word) (s : State) : (answered r0 r1 s).iirI = s.iirI := rfl
@[simp] theorem answered_iirQ (r0 r1 : Word) (s : State) : (answered r0 r1 s).iirQ = s.iirQ := rfl
@[simp] theorem answered_eqY (r0 r1 : Word) (s : State) : (answered r0 r1 s).eqY = s.eqY := rfl
@[simp] theorem answered_eqI (r0 r1 : Word) (s : State) : (answered r0 r1 s).eqI = s.eqI := rfl
@[simp] theorem answered_eqQ (r0 r1 : Word) (s : State) : (answered r0 r1 s).eqQ = s.eqQ := rfl
@[simp] theorem answered_initialized (r0 r1 : Word) (s : State) :
    (answered r0 r1 s).initialized =
      s.initialized := rfl
@[simp] theorem answered_fault (r0 r1 : Word) (s : State) : (answered r0 r1 s).fault = s.fault := rfl
@[simp] theorem answered_mem (r0 r1 : Word) (s : State) : (answered r0 r1 s).mem = s.mem := rfl
@[simp] theorem answered_readable (r0 r1 : Word) (s : State) : (answered r0 r1 s).readable = s.readable := rfl
@[simp] theorem answered_writable (r0 r1 : Word) (s : State) : (answered r0 r1 s).writable = s.writable := rfl
@[simp] theorem answered_port (r0 r1 : Word) (s : State) : (answered r0 r1 s).port = s.port := rfl
@[simp] theorem answered_response (r0 r1 : Word) (s : State) :
    (answered r0 r1 s).response =
      some { status := .ok, r0 := r0, r1 := r1 } := rfl
@[simp] theorem answered_resetInput (r0 r1 : Word) (s : State) : (answered r0 r1 s).resetInput = s.resetInput := rfl

/-! ## `faulted` -/

@[simp] theorem faulted_cfg (c : Cause) (s : State) : (faulted c s).cfg = s.cfg := rfl
@[simp] theorem faulted_analog (c : Cause) (s : State) : (faulted c s).analog = s.analog := rfl
@[simp] theorem faulted_inp (c : Cause) (s : State) : (faulted c s).inp = s.inp := rfl
@[simp] theorem faulted_ccf (c : Cause) (s : State) : (faulted c s).ccf = s.ccf := rfl
@[simp] theorem faulted_hsync (c : Cause) (s : State) : (faulted c s).hsync = s.hsync := rfl
@[simp] theorem faulted_vsync (c : Cause) (s : State) : (faulted c s).vsync = s.vsync := rfl
@[simp] theorem faulted_rn (c : Cause) (s : State) : (faulted c s).rn = s.rn := rfl
@[simp] theorem faulted_monitor (c : Cause) (s : State) : (faulted c s).monitor = s.monitor := rfl
@[simp] theorem faulted_output (c : Cause) (s : State) : (faulted c s).output = s.output := rfl
@[simp] theorem faulted_settings (c : Cause) (s : State) : (faulted c s).settings = s.settings := rfl
@[simp] theorem faulted_iirY (c : Cause) (s : State) : (faulted c s).iirY = s.iirY := rfl
@[simp] theorem faulted_iirI (c : Cause) (s : State) : (faulted c s).iirI = s.iirI := rfl
@[simp] theorem faulted_iirQ (c : Cause) (s : State) : (faulted c s).iirQ = s.iirQ := rfl
@[simp] theorem faulted_eqY (c : Cause) (s : State) : (faulted c s).eqY = s.eqY := rfl
@[simp] theorem faulted_eqI (c : Cause) (s : State) : (faulted c s).eqI = s.eqI := rfl
@[simp] theorem faulted_eqQ (c : Cause) (s : State) : (faulted c s).eqQ = s.eqQ := rfl
@[simp] theorem faulted_initialized (c : Cause) (s : State) : (faulted c s).initialized = s.initialized := rfl
@[simp] theorem faulted_fault (c : Cause) (s : State) : (faulted c s).fault = c.code := rfl
@[simp] theorem faulted_mem (c : Cause) (s : State) : (faulted c s).mem = s.mem := rfl
@[simp] theorem faulted_readable (c : Cause) (s : State) : (faulted c s).readable = s.readable := rfl
@[simp] theorem faulted_writable (c : Cause) (s : State) : (faulted c s).writable = s.writable := rfl
@[simp] theorem faulted_port (c : Cause) (s : State) : (faulted c s).port = s.port := rfl
@[simp] theorem faulted_response (c : Cause) (s : State) :
    (faulted c s).response =
      some (faultResponse c.code) := rfl
@[simp] theorem faulted_resetInput (c : Cause) (s : State) : (faulted c s).resetInput = s.resetInput := rfl

/-! ## `refuseFaulted` -/

@[simp] theorem refuseFaulted_cfg (s : State) : (refuseFaulted s).cfg = s.cfg := rfl
@[simp] theorem refuseFaulted_analog (s : State) : (refuseFaulted s).analog = s.analog := rfl
@[simp] theorem refuseFaulted_inp (s : State) : (refuseFaulted s).inp = s.inp := rfl
@[simp] theorem refuseFaulted_ccf (s : State) : (refuseFaulted s).ccf = s.ccf := rfl
@[simp] theorem refuseFaulted_hsync (s : State) : (refuseFaulted s).hsync = s.hsync := rfl
@[simp] theorem refuseFaulted_vsync (s : State) : (refuseFaulted s).vsync = s.vsync := rfl
@[simp] theorem refuseFaulted_rn (s : State) : (refuseFaulted s).rn = s.rn := rfl
@[simp] theorem refuseFaulted_monitor (s : State) : (refuseFaulted s).monitor = s.monitor := rfl
@[simp] theorem refuseFaulted_output (s : State) : (refuseFaulted s).output = s.output := rfl
@[simp] theorem refuseFaulted_settings (s : State) : (refuseFaulted s).settings = s.settings := rfl
@[simp] theorem refuseFaulted_iirY (s : State) : (refuseFaulted s).iirY = s.iirY := rfl
@[simp] theorem refuseFaulted_iirI (s : State) : (refuseFaulted s).iirI = s.iirI := rfl
@[simp] theorem refuseFaulted_iirQ (s : State) : (refuseFaulted s).iirQ = s.iirQ := rfl
@[simp] theorem refuseFaulted_eqY (s : State) : (refuseFaulted s).eqY = s.eqY := rfl
@[simp] theorem refuseFaulted_eqI (s : State) : (refuseFaulted s).eqI = s.eqI := rfl
@[simp] theorem refuseFaulted_eqQ (s : State) : (refuseFaulted s).eqQ = s.eqQ := rfl
@[simp] theorem refuseFaulted_initialized (s : State) : (refuseFaulted s).initialized = s.initialized := rfl
@[simp] theorem refuseFaulted_fault (s : State) : (refuseFaulted s).fault = s.fault := rfl
@[simp] theorem refuseFaulted_mem (s : State) : (refuseFaulted s).mem = s.mem := rfl
@[simp] theorem refuseFaulted_readable (s : State) : (refuseFaulted s).readable = s.readable := rfl
@[simp] theorem refuseFaulted_writable (s : State) : (refuseFaulted s).writable = s.writable := rfl
@[simp] theorem refuseFaulted_port (s : State) : (refuseFaulted s).port = s.port := rfl
@[simp] theorem refuseFaulted_response (s : State) : (refuseFaulted s).response = some (faultResponse s.fault) := rfl
@[simp] theorem refuseFaulted_resetInput (s : State) : (refuseFaulted s).resetInput = s.resetInput := rfl

/-! ## `consume` -/

@[simp] theorem consume_cfg (s : State) (rest : List Word) : (consume s rest).cfg = s.cfg := rfl
@[simp] theorem consume_analog (s : State) (rest : List Word) : (consume s rest).analog = s.analog := rfl
@[simp] theorem consume_inp (s : State) (rest : List Word) : (consume s rest).inp = s.inp := rfl
@[simp] theorem consume_ccf (s : State) (rest : List Word) : (consume s rest).ccf = s.ccf := rfl
@[simp] theorem consume_hsync (s : State) (rest : List Word) : (consume s rest).hsync = s.hsync := rfl
@[simp] theorem consume_vsync (s : State) (rest : List Word) : (consume s rest).vsync = s.vsync := rfl
@[simp] theorem consume_rn (s : State) (rest : List Word) : (consume s rest).rn = s.rn := rfl
@[simp] theorem consume_monitor (s : State) (rest : List Word) : (consume s rest).monitor = s.monitor := rfl
@[simp] theorem consume_output (s : State) (rest : List Word) : (consume s rest).output = s.output := rfl
@[simp] theorem consume_settings (s : State) (rest : List Word) : (consume s rest).settings = s.settings := rfl
@[simp] theorem consume_iirY (s : State) (rest : List Word) : (consume s rest).iirY = s.iirY := rfl
@[simp] theorem consume_iirI (s : State) (rest : List Word) : (consume s rest).iirI = s.iirI := rfl
@[simp] theorem consume_iirQ (s : State) (rest : List Word) : (consume s rest).iirQ = s.iirQ := rfl
@[simp] theorem consume_eqY (s : State) (rest : List Word) : (consume s rest).eqY = s.eqY := rfl
@[simp] theorem consume_eqI (s : State) (rest : List Word) : (consume s rest).eqI = s.eqI := rfl
@[simp] theorem consume_eqQ (s : State) (rest : List Word) : (consume s rest).eqQ = s.eqQ := rfl
@[simp] theorem consume_initialized (s : State) (rest : List Word) :
    (consume s rest).initialized =
      s.initialized := rfl
@[simp] theorem consume_fault (s : State) (rest : List Word) : (consume s rest).fault = s.fault := rfl
@[simp] theorem consume_mem (s : State) (rest : List Word) : (consume s rest).mem = s.mem := rfl
@[simp] theorem consume_readable (s : State) (rest : List Word) : (consume s rest).readable = s.readable := rfl
@[simp] theorem consume_writable (s : State) (rest : List Word) : (consume s rest).writable = s.writable := rfl
@[simp] theorem consume_port (s : State) (rest : List Word) : (consume s rest).port = rest := rfl
@[simp] theorem consume_response (s : State) (rest : List Word) : (consume s rest).response = s.response := rfl
@[simp] theorem consume_resetInput (s : State) (rest : List Word) : (consume s rest).resetInput = s.resetInput := rfl

/-! ## `setMonitor` -/

@[simp] theorem setMonitor_cfg (s : State) (m : Monitor) : (setMonitor s m).cfg = s.cfg := rfl
@[simp] theorem setMonitor_analog (s : State) (m : Monitor) : (setMonitor s m).analog = s.analog := rfl
@[simp] theorem setMonitor_inp (s : State) (m : Monitor) : (setMonitor s m).inp = s.inp := rfl
@[simp] theorem setMonitor_ccf (s : State) (m : Monitor) : (setMonitor s m).ccf = s.ccf := rfl
@[simp] theorem setMonitor_hsync (s : State) (m : Monitor) : (setMonitor s m).hsync = s.hsync := rfl
@[simp] theorem setMonitor_vsync (s : State) (m : Monitor) : (setMonitor s m).vsync = s.vsync := rfl
@[simp] theorem setMonitor_rn (s : State) (m : Monitor) : (setMonitor s m).rn = s.rn := rfl
@[simp] theorem setMonitor_monitor (s : State) (m : Monitor) : (setMonitor s m).monitor = m := rfl
@[simp] theorem setMonitor_output (s : State) (m : Monitor) : (setMonitor s m).output = s.output := rfl
@[simp] theorem setMonitor_settings (s : State) (m : Monitor) : (setMonitor s m).settings = s.settings := rfl
@[simp] theorem setMonitor_iirY (s : State) (m : Monitor) : (setMonitor s m).iirY = s.iirY := rfl
@[simp] theorem setMonitor_iirI (s : State) (m : Monitor) : (setMonitor s m).iirI = s.iirI := rfl
@[simp] theorem setMonitor_iirQ (s : State) (m : Monitor) : (setMonitor s m).iirQ = s.iirQ := rfl
@[simp] theorem setMonitor_eqY (s : State) (m : Monitor) : (setMonitor s m).eqY = s.eqY := rfl
@[simp] theorem setMonitor_eqI (s : State) (m : Monitor) : (setMonitor s m).eqI = s.eqI := rfl
@[simp] theorem setMonitor_eqQ (s : State) (m : Monitor) : (setMonitor s m).eqQ = s.eqQ := rfl
@[simp] theorem setMonitor_initialized (s : State) (m : Monitor) :
    (setMonitor s m).initialized =
      s.initialized := rfl
@[simp] theorem setMonitor_fault (s : State) (m : Monitor) : (setMonitor s m).fault = s.fault := rfl
@[simp] theorem setMonitor_mem (s : State) (m : Monitor) : (setMonitor s m).mem = s.mem := rfl
@[simp] theorem setMonitor_readable (s : State) (m : Monitor) : (setMonitor s m).readable = s.readable := rfl
@[simp] theorem setMonitor_writable (s : State) (m : Monitor) : (setMonitor s m).writable = s.writable := rfl
@[simp] theorem setMonitor_port (s : State) (m : Monitor) : (setMonitor s m).port = s.port := rfl
@[simp] theorem setMonitor_response (s : State) (m : Monitor) : (setMonitor s m).response = s.response := rfl
@[simp] theorem setMonitor_resetInput (s : State) (m : Monitor) : (setMonitor s m).resetInput = s.resetInput := rfl

/-! ## `setSettings` -/

@[simp] theorem setSettings_cfg (s : State) (t : Settings) : (setSettings s t).cfg = s.cfg := rfl
@[simp] theorem setSettings_analog (s : State) (t : Settings) : (setSettings s t).analog = s.analog := rfl
@[simp] theorem setSettings_inp (s : State) (t : Settings) : (setSettings s t).inp = s.inp := rfl
@[simp] theorem setSettings_ccf (s : State) (t : Settings) : (setSettings s t).ccf = s.ccf := rfl
@[simp] theorem setSettings_hsync (s : State) (t : Settings) : (setSettings s t).hsync = s.hsync := rfl
@[simp] theorem setSettings_vsync (s : State) (t : Settings) : (setSettings s t).vsync = s.vsync := rfl
@[simp] theorem setSettings_rn (s : State) (t : Settings) : (setSettings s t).rn = s.rn := rfl
@[simp] theorem setSettings_monitor (s : State) (t : Settings) : (setSettings s t).monitor = s.monitor := rfl
@[simp] theorem setSettings_output (s : State) (t : Settings) : (setSettings s t).output = s.output := rfl
@[simp] theorem setSettings_settings (s : State) (t : Settings) : (setSettings s t).settings = t := rfl
@[simp] theorem setSettings_iirY (s : State) (t : Settings) : (setSettings s t).iirY = s.iirY := rfl
@[simp] theorem setSettings_iirI (s : State) (t : Settings) : (setSettings s t).iirI = s.iirI := rfl
@[simp] theorem setSettings_iirQ (s : State) (t : Settings) : (setSettings s t).iirQ = s.iirQ := rfl
@[simp] theorem setSettings_eqY (s : State) (t : Settings) : (setSettings s t).eqY = s.eqY := rfl
@[simp] theorem setSettings_eqI (s : State) (t : Settings) : (setSettings s t).eqI = s.eqI := rfl
@[simp] theorem setSettings_eqQ (s : State) (t : Settings) : (setSettings s t).eqQ = s.eqQ := rfl
@[simp] theorem setSettings_initialized (s : State) (t : Settings) :
    (setSettings s t).initialized =
      s.initialized := rfl
@[simp] theorem setSettings_fault (s : State) (t : Settings) : (setSettings s t).fault = s.fault := rfl
@[simp] theorem setSettings_mem (s : State) (t : Settings) : (setSettings s t).mem = s.mem := rfl
@[simp] theorem setSettings_readable (s : State) (t : Settings) : (setSettings s t).readable = s.readable := rfl
@[simp] theorem setSettings_writable (s : State) (t : Settings) : (setSettings s t).writable = s.writable := rfl
@[simp] theorem setSettings_port (s : State) (t : Settings) : (setSettings s t).port = s.port := rfl
@[simp] theorem setSettings_response (s : State) (t : Settings) : (setSettings s t).response = s.response := rfl
@[simp] theorem setSettings_resetInput (s : State) (t : Settings) :
    (setSettings s t).resetInput =
      s.resetInput := rfl

/-! ## `setOutput` -/

@[simp] theorem setOutput_cfg (w h f b : Word) (s : State) : (setOutput w h f b s).cfg = s.cfg := rfl
@[simp] theorem setOutput_analog (w h f b : Word) (s : State) : (setOutput w h f b s).analog = s.analog := rfl
@[simp] theorem setOutput_inp (w h f b : Word) (s : State) : (setOutput w h f b s).inp = s.inp := rfl
@[simp] theorem setOutput_ccf (w h f b : Word) (s : State) : (setOutput w h f b s).ccf = s.ccf := rfl
@[simp] theorem setOutput_hsync (w h f b : Word) (s : State) : (setOutput w h f b s).hsync = s.hsync := rfl
@[simp] theorem setOutput_vsync (w h f b : Word) (s : State) : (setOutput w h f b s).vsync = s.vsync := rfl
@[simp] theorem setOutput_rn (w h f b : Word) (s : State) : (setOutput w h f b s).rn = s.rn := rfl
@[simp] theorem setOutput_monitor (w h f b : Word) (s : State) : (setOutput w h f b s).monitor = s.monitor := rfl
@[simp] theorem setOutput_output (w h f b : Word) (s : State) :
    (setOutput w h f b s).output =
      { outw := w, outh := h, format := f, base := b } := rfl
@[simp] theorem setOutput_settings (w h f b : Word) (s : State) : (setOutput w h f b s).settings = s.settings := rfl
@[simp] theorem setOutput_iirY (w h f b : Word) (s : State) : (setOutput w h f b s).iirY = s.iirY := rfl
@[simp] theorem setOutput_iirI (w h f b : Word) (s : State) : (setOutput w h f b s).iirI = s.iirI := rfl
@[simp] theorem setOutput_iirQ (w h f b : Word) (s : State) : (setOutput w h f b s).iirQ = s.iirQ := rfl
@[simp] theorem setOutput_eqY (w h f b : Word) (s : State) : (setOutput w h f b s).eqY = s.eqY := rfl
@[simp] theorem setOutput_eqI (w h f b : Word) (s : State) : (setOutput w h f b s).eqI = s.eqI := rfl
@[simp] theorem setOutput_eqQ (w h f b : Word) (s : State) : (setOutput w h f b s).eqQ = s.eqQ := rfl
@[simp] theorem setOutput_initialized (w h f b : Word) (s : State) :
    (setOutput w h f b s).initialized =
      s.initialized := rfl
@[simp] theorem setOutput_fault (w h f b : Word) (s : State) : (setOutput w h f b s).fault = s.fault := rfl
@[simp] theorem setOutput_mem (w h f b : Word) (s : State) : (setOutput w h f b s).mem = s.mem := rfl
@[simp] theorem setOutput_readable (w h f b : Word) (s : State) : (setOutput w h f b s).readable = s.readable := rfl
@[simp] theorem setOutput_writable (w h f b : Word) (s : State) : (setOutput w h f b s).writable = s.writable := rfl
@[simp] theorem setOutput_port (w h f b : Word) (s : State) : (setOutput w h f b s).port = s.port := rfl
@[simp] theorem setOutput_response (w h f b : Word) (s : State) : (setOutput w h f b s).response = s.response := rfl
@[simp] theorem setOutput_resetInput (w h f b : Word) (s : State) :
    (setOutput w h f b s).resetInput =
      s.resetInput := rfl

/-! ## `resetMonitor` -/

@[simp] theorem resetMonitor_cfg (s : State) : (resetMonitor s).cfg = s.cfg := rfl
@[simp] theorem resetMonitor_analog (s : State) : (resetMonitor s).analog = s.analog := rfl
@[simp] theorem resetMonitor_inp (s : State) : (resetMonitor s).inp = s.inp := rfl
@[simp] theorem resetMonitor_ccf (s : State) : (resetMonitor s).ccf = s.ccf := rfl
@[simp] theorem resetMonitor_hsync (s : State) : (resetMonitor s).hsync = 0 := rfl
@[simp] theorem resetMonitor_vsync (s : State) : (resetMonitor s).vsync = 0 := rfl
@[simp] theorem resetMonitor_rn (s : State) : (resetMonitor s).rn = s.rn := rfl
@[simp] theorem resetMonitor_monitor (s : State) : (resetMonitor s).monitor = monitorDefaults s.monitor := rfl
@[simp] theorem resetMonitor_output (s : State) : (resetMonitor s).output = s.output := rfl
@[simp] theorem resetMonitor_settings (s : State) : (resetMonitor s).settings = s.settings := rfl
@[simp] theorem resetMonitor_iirY (s : State) : (resetMonitor s).iirY = s.iirY := rfl
@[simp] theorem resetMonitor_iirI (s : State) : (resetMonitor s).iirI = s.iirI := rfl
@[simp] theorem resetMonitor_iirQ (s : State) : (resetMonitor s).iirQ = s.iirQ := rfl
@[simp] theorem resetMonitor_eqY (s : State) : (resetMonitor s).eqY = s.eqY := rfl
@[simp] theorem resetMonitor_eqI (s : State) : (resetMonitor s).eqI = s.eqI := rfl
@[simp] theorem resetMonitor_eqQ (s : State) : (resetMonitor s).eqQ = s.eqQ := rfl
@[simp] theorem resetMonitor_initialized (s : State) : (resetMonitor s).initialized = s.initialized := rfl
@[simp] theorem resetMonitor_fault (s : State) : (resetMonitor s).fault = s.fault := rfl
@[simp] theorem resetMonitor_mem (s : State) : (resetMonitor s).mem = s.mem := rfl
@[simp] theorem resetMonitor_readable (s : State) : (resetMonitor s).readable = s.readable := rfl
@[simp] theorem resetMonitor_writable (s : State) : (resetMonitor s).writable = s.writable := rfl
@[simp] theorem resetMonitor_port (s : State) : (resetMonitor s).port = s.port := rfl
@[simp] theorem resetMonitor_response (s : State) : (resetMonitor s).response = s.response := rfl
@[simp] theorem resetMonitor_resetInput (s : State) : (resetMonitor s).resetInput = s.resetInput := rfl

/-! ## `zeroCrt` -/

@[simp] theorem zeroCrt_cfg (s : State) : (zeroCrt s).cfg = s.cfg := rfl
@[simp] theorem zeroCrt_analog (s : State) : (zeroCrt s).analog = zeroBuffer s.cfg := rfl
@[simp] theorem zeroCrt_inp (s : State) : (zeroCrt s).inp = zeroBuffer s.cfg := rfl
@[simp] theorem zeroCrt_ccf (s : State) : (zeroCrt s).ccf = zeroCcf s.cfg := rfl
@[simp] theorem zeroCrt_hsync (s : State) : (zeroCrt s).hsync = 0 := rfl
@[simp] theorem zeroCrt_vsync (s : State) : (zeroCrt s).vsync = 0 := rfl
@[simp] theorem zeroCrt_rn (s : State) : (zeroCrt s).rn = 0 := rfl
@[simp] theorem zeroCrt_monitor (s : State) : (zeroCrt s).monitor = .zero := rfl
@[simp] theorem zeroCrt_output (s : State) : (zeroCrt s).output = .zero := rfl
@[simp] theorem zeroCrt_settings (s : State) : (zeroCrt s).settings = s.settings := rfl
@[simp] theorem zeroCrt_iirY (s : State) : (zeroCrt s).iirY = s.iirY := rfl
@[simp] theorem zeroCrt_iirI (s : State) : (zeroCrt s).iirI = s.iirI := rfl
@[simp] theorem zeroCrt_iirQ (s : State) : (zeroCrt s).iirQ = s.iirQ := rfl
@[simp] theorem zeroCrt_eqY (s : State) : (zeroCrt s).eqY = s.eqY := rfl
@[simp] theorem zeroCrt_eqI (s : State) : (zeroCrt s).eqI = s.eqI := rfl
@[simp] theorem zeroCrt_eqQ (s : State) : (zeroCrt s).eqQ = s.eqQ := rfl
@[simp] theorem zeroCrt_initialized (s : State) : (zeroCrt s).initialized = s.initialized := rfl
@[simp] theorem zeroCrt_fault (s : State) : (zeroCrt s).fault = s.fault := rfl
@[simp] theorem zeroCrt_mem (s : State) : (zeroCrt s).mem = s.mem := rfl
@[simp] theorem zeroCrt_readable (s : State) : (zeroCrt s).readable = s.readable := rfl
@[simp] theorem zeroCrt_writable (s : State) : (zeroCrt s).writable = s.writable := rfl
@[simp] theorem zeroCrt_port (s : State) : (zeroCrt s).port = s.port := rfl
@[simp] theorem zeroCrt_response (s : State) : (zeroCrt s).response = s.response := rfl
@[simp] theorem zeroCrt_resetInput (s : State) : (zeroCrt s).resetInput = s.resetInput := rfl

/-! ## `finishInit` -/

@[simp] theorem finishInit_cfg (s : State) : (finishInit s).cfg = s.cfg := rfl
@[simp] theorem finishInit_analog (s : State) : (finishInit s).analog = s.analog := rfl
@[simp] theorem finishInit_inp (s : State) : (finishInit s).inp = s.inp := rfl
@[simp] theorem finishInit_ccf (s : State) : (finishInit s).ccf = s.ccf := rfl
@[simp] theorem finishInit_hsync (s : State) : (finishInit s).hsync = s.hsync := rfl
@[simp] theorem finishInit_vsync (s : State) : (finishInit s).vsync = s.vsync := rfl
@[simp] theorem finishInit_rn (s : State) : (finishInit s).rn = 194 := rfl
@[simp] theorem finishInit_monitor (s : State) : (finishInit s).monitor = s.monitor := rfl
@[simp] theorem finishInit_output (s : State) : (finishInit s).output = s.output := rfl
@[simp] theorem finishInit_settings (s : State) : (finishInit s).settings = s.settings := rfl
@[simp] theorem finishInit_iirY (s : State) : (finishInit s).iirY = s.iirY := rfl
@[simp] theorem finishInit_iirI (s : State) : (finishInit s).iirI = s.iirI := rfl
@[simp] theorem finishInit_iirQ (s : State) : (finishInit s).iirQ = s.iirQ := rfl
@[simp] theorem finishInit_eqY (s : State) : (finishInit s).eqY = eqSetup s.cfg s.cfg.eqY := rfl
@[simp] theorem finishInit_eqI (s : State) : (finishInit s).eqI = eqSetup s.cfg s.cfg.eqI := rfl
@[simp] theorem finishInit_eqQ (s : State) : (finishInit s).eqQ = eqSetup s.cfg s.cfg.eqQ := rfl
@[simp] theorem finishInit_initialized (s : State) : (finishInit s).initialized = true := rfl
@[simp] theorem finishInit_fault (s : State) : (finishInit s).fault = s.fault := rfl
@[simp] theorem finishInit_mem (s : State) : (finishInit s).mem = s.mem := rfl
@[simp] theorem finishInit_readable (s : State) : (finishInit s).readable = s.readable := rfl
@[simp] theorem finishInit_writable (s : State) : (finishInit s).writable = s.writable := rfl
@[simp] theorem finishInit_port (s : State) : (finishInit s).port = s.port := rfl
@[simp] theorem finishInit_response (s : State) : (finishInit s).response = s.response := rfl
@[simp] theorem finishInit_resetInput (s : State) : (finishInit s).resetInput = s.resetInput := rfl

/-! ## `noiseState` -/

@[simp] theorem noiseState_cfg (n : Word) (s : State) : (noiseState n s).cfg = s.cfg := rfl
@[simp] theorem noiseState_analog (n : Word) (s : State) : (noiseState n s).analog = s.analog := rfl
@[simp] theorem noiseState_inp (n : Word) (s : State) :
    (noiseState n s).inp =
      (addNoise s.cfg n s.analog (s.rn, s.inp)).2 := rfl
@[simp] theorem noiseState_ccf (n : Word) (s : State) : (noiseState n s).ccf = s.ccf := rfl
@[simp] theorem noiseState_hsync (n : Word) (s : State) : (noiseState n s).hsync = s.hsync := rfl
@[simp] theorem noiseState_vsync (n : Word) (s : State) : (noiseState n s).vsync = s.vsync := rfl
@[simp] theorem noiseState_rn (n : Word) (s : State) :
    (noiseState n s).rn =
      (addNoise s.cfg n s.analog (s.rn, s.inp)).1 := rfl
@[simp] theorem noiseState_monitor (n : Word) (s : State) : (noiseState n s).monitor = s.monitor := rfl
@[simp] theorem noiseState_output (n : Word) (s : State) : (noiseState n s).output = s.output := rfl
@[simp] theorem noiseState_settings (n : Word) (s : State) : (noiseState n s).settings = s.settings := rfl
@[simp] theorem noiseState_iirY (n : Word) (s : State) : (noiseState n s).iirY = s.iirY := rfl
@[simp] theorem noiseState_iirI (n : Word) (s : State) : (noiseState n s).iirI = s.iirI := rfl
@[simp] theorem noiseState_iirQ (n : Word) (s : State) : (noiseState n s).iirQ = s.iirQ := rfl
@[simp] theorem noiseState_eqY (n : Word) (s : State) : (noiseState n s).eqY = s.eqY := rfl
@[simp] theorem noiseState_eqI (n : Word) (s : State) : (noiseState n s).eqI = s.eqI := rfl
@[simp] theorem noiseState_eqQ (n : Word) (s : State) : (noiseState n s).eqQ = s.eqQ := rfl
@[simp] theorem noiseState_initialized (n : Word) (s : State) : (noiseState n s).initialized = s.initialized := rfl
@[simp] theorem noiseState_fault (n : Word) (s : State) : (noiseState n s).fault = s.fault := rfl
@[simp] theorem noiseState_mem (n : Word) (s : State) : (noiseState n s).mem = s.mem := rfl
@[simp] theorem noiseState_readable (n : Word) (s : State) : (noiseState n s).readable = s.readable := rfl
@[simp] theorem noiseState_writable (n : Word) (s : State) : (noiseState n s).writable = s.writable := rfl
@[simp] theorem noiseState_port (n : Word) (s : State) : (noiseState n s).port = s.port := rfl
@[simp] theorem noiseState_response (n : Word) (s : State) : (noiseState n s).response = s.response := rfl
@[simp] theorem noiseState_resetInput (n : Word) (s : State) : (noiseState n s).resetInput = s.resetInput := rfl

/-! ## `scanDone` and `scanState` -/

@[simp] theorem scanDone_cfg (d : LineCarry) (s : State) : (scanDone d s).cfg = s.cfg := rfl
@[simp] theorem scanDone_analog (d : LineCarry) (s : State) : (scanDone d s).analog = s.analog := rfl
@[simp] theorem scanDone_inp (d : LineCarry) (s : State) : (scanDone d s).inp = s.inp := rfl
@[simp] theorem scanDone_ccf (d : LineCarry) (s : State) : (scanDone d s).ccf = d.ccf := rfl
@[simp] theorem scanDone_hsync (d : LineCarry) (s : State) : (scanDone d s).hsync = d.hsync := rfl
@[simp] theorem scanDone_vsync (d : LineCarry) (s : State) : (scanDone d s).vsync = s.vsync := rfl
@[simp] theorem scanDone_rn (d : LineCarry) (s : State) : (scanDone d s).rn = s.rn := rfl
@[simp] theorem scanDone_monitor (d : LineCarry) (s : State) : (scanDone d s).monitor = s.monitor := rfl
@[simp] theorem scanDone_output (d : LineCarry) (s : State) : (scanDone d s).output = s.output := rfl
@[simp] theorem scanDone_settings (d : LineCarry) (s : State) : (scanDone d s).settings = s.settings := rfl
@[simp] theorem scanDone_iirY (d : LineCarry) (s : State) : (scanDone d s).iirY = s.iirY := rfl
@[simp] theorem scanDone_iirI (d : LineCarry) (s : State) : (scanDone d s).iirI = s.iirI := rfl
@[simp] theorem scanDone_iirQ (d : LineCarry) (s : State) : (scanDone d s).iirQ = s.iirQ := rfl
@[simp] theorem scanDone_eqY (d : LineCarry) (s : State) : (scanDone d s).eqY = d.eqs.y := rfl
@[simp] theorem scanDone_eqI (d : LineCarry) (s : State) : (scanDone d s).eqI = d.eqs.i := rfl
@[simp] theorem scanDone_eqQ (d : LineCarry) (s : State) : (scanDone d s).eqQ = d.eqs.q := rfl
@[simp] theorem scanDone_initialized (d : LineCarry) (s : State) : (scanDone d s).initialized = s.initialized := rfl
@[simp] theorem scanDone_fault (d : LineCarry) (s : State) : (scanDone d s).fault = s.fault := rfl
@[simp] theorem scanDone_mem (d : LineCarry) (s : State) : (scanDone d s).mem = d.mem := rfl
@[simp] theorem scanDone_readable (d : LineCarry) (s : State) : (scanDone d s).readable = s.readable := rfl
@[simp] theorem scanDone_writable (d : LineCarry) (s : State) : (scanDone d s).writable = s.writable := rfl
@[simp] theorem scanDone_port (d : LineCarry) (s : State) : (scanDone d s).port = s.port := rfl
@[simp] theorem scanDone_response (d : LineCarry) (s : State) : (scanDone d s).response = s.response := rfl
@[simp] theorem scanDone_resetInput (d : LineCarry) (s : State) : (scanDone d s).resetInput = s.resetInput := rfl
@[simp] theorem scanState_cfg (b : DemodInput) (f : PixelFormat) (n : Word) (fld : Bool) (s : State) :
    (scanState b f n fld s).cfg = s.cfg := by
  rw [scanState, scanDone_cfg]
@[simp] theorem scanState_analog (b : DemodInput) (f : PixelFormat) (n : Word) (fld : Bool) (s : State) :
    (scanState b f n fld s).analog = s.analog := by
  rw [scanState, scanDone_analog]
@[simp] theorem scanState_inp (b : DemodInput) (f : PixelFormat) (n : Word) (fld : Bool) (s : State) :
    (scanState b f n fld s).inp = s.inp := by
  rw [scanState, scanDone_inp]
@[simp] theorem scanState_ccf (b : DemodInput) (f : PixelFormat) (n : Word) (fld : Bool) (s : State) :
    (scanState b f n fld s).ccf = (demodLines (scanOf b s f n fld) (carryOf s)).ccf := by
  rw [scanState, scanDone_ccf]
@[simp] theorem scanState_hsync (b : DemodInput) (f : PixelFormat) (n : Word) (fld : Bool) (s : State) :
    (scanState b f n fld s).hsync = (demodLines (scanOf b s f n fld) (carryOf s)).hsync := by
  rw [scanState, scanDone_hsync]
@[simp] theorem scanState_vsync (b : DemodInput) (f : PixelFormat) (n : Word) (fld : Bool) (s : State) :
    (scanState b f n fld s).vsync = s.vsync := by
  rw [scanState, scanDone_vsync]
@[simp] theorem scanState_rn (b : DemodInput) (f : PixelFormat) (n : Word) (fld : Bool) (s : State) :
    (scanState b f n fld s).rn = s.rn := by
  rw [scanState, scanDone_rn]
@[simp] theorem scanState_monitor (b : DemodInput) (f : PixelFormat) (n : Word) (fld : Bool) (s : State) :
    (scanState b f n fld s).monitor = s.monitor := by
  rw [scanState, scanDone_monitor]
@[simp] theorem scanState_output (b : DemodInput) (f : PixelFormat) (n : Word) (fld : Bool) (s : State) :
    (scanState b f n fld s).output = s.output := by
  rw [scanState, scanDone_output]
@[simp] theorem scanState_settings (b : DemodInput) (f : PixelFormat) (n : Word) (fld : Bool) (s : State) :
    (scanState b f n fld s).settings = s.settings := by
  rw [scanState, scanDone_settings]
@[simp] theorem scanState_iirY (b : DemodInput) (f : PixelFormat) (n : Word) (fld : Bool) (s : State) :
    (scanState b f n fld s).iirY = s.iirY := by
  rw [scanState, scanDone_iirY]
@[simp] theorem scanState_iirI (b : DemodInput) (f : PixelFormat) (n : Word) (fld : Bool) (s : State) :
    (scanState b f n fld s).iirI = s.iirI := by
  rw [scanState, scanDone_iirI]
@[simp] theorem scanState_iirQ (b : DemodInput) (f : PixelFormat) (n : Word) (fld : Bool) (s : State) :
    (scanState b f n fld s).iirQ = s.iirQ := by
  rw [scanState, scanDone_iirQ]
@[simp] theorem scanState_eqY (b : DemodInput) (f : PixelFormat) (n : Word) (fld : Bool) (s : State) :
    (scanState b f n fld s).eqY = (demodLines (scanOf b s f n fld) (carryOf s)).eqs.y := by
  rw [scanState, scanDone_eqY]
@[simp] theorem scanState_eqI (b : DemodInput) (f : PixelFormat) (n : Word) (fld : Bool) (s : State) :
    (scanState b f n fld s).eqI = (demodLines (scanOf b s f n fld) (carryOf s)).eqs.i := by
  rw [scanState, scanDone_eqI]
@[simp] theorem scanState_eqQ (b : DemodInput) (f : PixelFormat) (n : Word) (fld : Bool) (s : State) :
    (scanState b f n fld s).eqQ = (demodLines (scanOf b s f n fld) (carryOf s)).eqs.q := by
  rw [scanState, scanDone_eqQ]
@[simp] theorem scanState_initialized (b : DemodInput) (f : PixelFormat) (n : Word) (fld : Bool) (s : State) :
    (scanState b f n fld s).initialized = s.initialized := by
  rw [scanState, scanDone_initialized]
@[simp] theorem scanState_fault (b : DemodInput) (f : PixelFormat) (n : Word) (fld : Bool) (s : State) :
    (scanState b f n fld s).fault = s.fault := by
  rw [scanState, scanDone_fault]
@[simp] theorem scanState_mem (b : DemodInput) (f : PixelFormat) (n : Word) (fld : Bool) (s : State) :
    (scanState b f n fld s).mem = (demodLines (scanOf b s f n fld) (carryOf s)).mem := by
  rw [scanState, scanDone_mem]
@[simp] theorem scanState_readable (b : DemodInput) (f : PixelFormat) (n : Word) (fld : Bool) (s : State) :
    (scanState b f n fld s).readable = s.readable := by
  rw [scanState, scanDone_readable]
@[simp] theorem scanState_writable (b : DemodInput) (f : PixelFormat) (n : Word) (fld : Bool) (s : State) :
    (scanState b f n fld s).writable = s.writable := by
  rw [scanState, scanDone_writable]
@[simp] theorem scanState_port (b : DemodInput) (f : PixelFormat) (n : Word) (fld : Bool) (s : State) :
    (scanState b f n fld s).port = s.port := by
  rw [scanState, scanDone_port]
@[simp] theorem scanState_response (b : DemodInput) (f : PixelFormat) (n : Word) (fld : Bool) (s : State) :
    (scanState b f n fld s).response = s.response := by
  rw [scanState, scanDone_response]
@[simp] theorem scanState_resetInput (b : DemodInput) (f : PixelFormat) (n : Word) (fld : Bool) (s : State) :
    (scanState b f n fld s).resetInput = s.resetInput := by
  rw [scanState, scanDone_resetInput]

/-! ## `modulateField` -/

@[simp] theorem modulateField_cfg (f : PixelFormat) (s : State) : (modulateField f s).cfg = s.cfg := rfl
@[simp] theorem modulateField_analog (f : PixelFormat) (s : State) :
    (modulateField f s).analog =
      (paintRows (paintOf s f) ((layoutField s.cfg s.settings s.analog).1, { y := s.iirY, i := s.iirI, q := s.iirQ })).1 := rfl
@[simp] theorem modulateField_inp (f : PixelFormat) (s : State) : (modulateField f s).inp = s.inp := rfl
@[simp] theorem modulateField_ccf (f : PixelFormat) (s : State) :
    (modulateField f s).ccf =
      seedCcf s.cfg (layoutField s.cfg s.settings s.analog).2 := rfl
@[simp] theorem modulateField_hsync (f : PixelFormat) (s : State) : (modulateField f s).hsync = s.hsync := rfl
@[simp] theorem modulateField_vsync (f : PixelFormat) (s : State) : (modulateField f s).vsync = s.vsync := rfl
@[simp] theorem modulateField_rn (f : PixelFormat) (s : State) : (modulateField f s).rn = s.rn := rfl
@[simp] theorem modulateField_monitor (f : PixelFormat) (s : State) : (modulateField f s).monitor = s.monitor := rfl
@[simp] theorem modulateField_output (f : PixelFormat) (s : State) : (modulateField f s).output = s.output := rfl
@[simp] theorem modulateField_settings (f : PixelFormat) (s : State) :
    (modulateField f s).settings =
      s.settings := rfl
@[simp] theorem modulateField_iirY (f : PixelFormat) (s : State) :
    (modulateField f s).iirY =
      (paintRows (paintOf s f) ((layoutField s.cfg s.settings s.analog).1, { y := s.iirY, i := s.iirI, q := s.iirQ })).2.y := rfl
@[simp] theorem modulateField_iirI (f : PixelFormat) (s : State) :
    (modulateField f s).iirI =
      (paintRows (paintOf s f) ((layoutField s.cfg s.settings s.analog).1, { y := s.iirY, i := s.iirI, q := s.iirQ })).2.i := rfl
@[simp] theorem modulateField_iirQ (f : PixelFormat) (s : State) :
    (modulateField f s).iirQ =
      (paintRows (paintOf s f) ((layoutField s.cfg s.settings s.analog).1, { y := s.iirY, i := s.iirI, q := s.iirQ })).2.q := rfl
@[simp] theorem modulateField_eqY (f : PixelFormat) (s : State) : (modulateField f s).eqY = s.eqY := rfl
@[simp] theorem modulateField_eqI (f : PixelFormat) (s : State) : (modulateField f s).eqI = s.eqI := rfl
@[simp] theorem modulateField_eqQ (f : PixelFormat) (s : State) : (modulateField f s).eqQ = s.eqQ := rfl
@[simp] theorem modulateField_initialized (f : PixelFormat) (s : State) :
    (modulateField f s).initialized =
      s.initialized := rfl
@[simp] theorem modulateField_fault (f : PixelFormat) (s : State) : (modulateField f s).fault = s.fault := rfl
@[simp] theorem modulateField_mem (f : PixelFormat) (s : State) : (modulateField f s).mem = s.mem := rfl
@[simp] theorem modulateField_readable (f : PixelFormat) (s : State) :
    (modulateField f s).readable =
      s.readable := rfl
@[simp] theorem modulateField_writable (f : PixelFormat) (s : State) :
    (modulateField f s).writable =
      s.writable := rfl
@[simp] theorem modulateField_port (f : PixelFormat) (s : State) : (modulateField f s).port = s.port := rfl
@[simp] theorem modulateField_response (f : PixelFormat) (s : State) :
    (modulateField f s).response =
      s.response := rfl
@[simp] theorem modulateField_resetInput (f : PixelFormat) (s : State) :
    (modulateField f s).resetInput =
      s.resetInput := rfl

/-! ## `initIirs`: step 1 of MODULATE (R183) -/

@[simp] theorem initIirs_cfg (s : State) : (initIirs s).cfg = s.cfg := by
  unfold initIirs; split <;> rfl
@[simp] theorem initIirs_analog (s : State) : (initIirs s).analog = s.analog := by
  unfold initIirs; split <;> rfl
@[simp] theorem initIirs_inp (s : State) : (initIirs s).inp = s.inp := by
  unfold initIirs; split <;> rfl
@[simp] theorem initIirs_ccf (s : State) : (initIirs s).ccf = s.ccf := by
  unfold initIirs; split <;> rfl
@[simp] theorem initIirs_hsync (s : State) : (initIirs s).hsync = s.hsync := by
  unfold initIirs; split <;> rfl
@[simp] theorem initIirs_vsync (s : State) : (initIirs s).vsync = s.vsync := by
  unfold initIirs; split <;> rfl
@[simp] theorem initIirs_rn (s : State) : (initIirs s).rn = s.rn := by
  unfold initIirs; split <;> rfl
@[simp] theorem initIirs_monitor (s : State) : (initIirs s).monitor = s.monitor := by
  unfold initIirs; split <;> rfl
@[simp] theorem initIirs_output (s : State) : (initIirs s).output = s.output := by
  unfold initIirs; split <;> rfl
theorem initIirs_settings (s : State) : (initIirs s).settings = { s.settings with iirsInit := true } := by
  unfold initIirs
  split
  · next h => cases hs : s.settings; simp_all
  · rfl
theorem initIirs_iirY (s : State) :
    (initIirs s).iirY = if s.settings.iirsInit then s.iirY else iirInit lFreq yFreq := by
  unfold initIirs; split <;> rfl
theorem initIirs_iirI (s : State) :
    (initIirs s).iirI = if s.settings.iirsInit then s.iirI else iirInit lFreq iFreq := by
  unfold initIirs; split <;> rfl
theorem initIirs_iirQ (s : State) :
    (initIirs s).iirQ = if s.settings.iirsInit then s.iirQ else iirInit lFreq qFreq := by
  unfold initIirs; split <;> rfl
@[simp] theorem initIirs_eqY (s : State) : (initIirs s).eqY = s.eqY := by
  unfold initIirs; split <;> rfl
@[simp] theorem initIirs_eqI (s : State) : (initIirs s).eqI = s.eqI := by
  unfold initIirs; split <;> rfl
@[simp] theorem initIirs_eqQ (s : State) : (initIirs s).eqQ = s.eqQ := by
  unfold initIirs; split <;> rfl
@[simp] theorem initIirs_initialized (s : State) : (initIirs s).initialized = s.initialized := by
  unfold initIirs; split <;> rfl
@[simp] theorem initIirs_fault (s : State) : (initIirs s).fault = s.fault := by
  unfold initIirs; split <;> rfl
@[simp] theorem initIirs_mem (s : State) : (initIirs s).mem = s.mem := by
  unfold initIirs; split <;> rfl
@[simp] theorem initIirs_readable (s : State) : (initIirs s).readable = s.readable := by
  unfold initIirs; split <;> rfl
@[simp] theorem initIirs_writable (s : State) : (initIirs s).writable = s.writable := by
  unfold initIirs; split <;> rfl
@[simp] theorem initIirs_port (s : State) : (initIirs s).port = s.port := by
  unfold initIirs; split <;> rfl
@[simp] theorem initIirs_response (s : State) : (initIirs s).response = s.response := by
  unfold initIirs; split <;> rfl
@[simp] theorem initIirs_resetInput (s : State) : (initIirs s).resetInput = s.resetInput := by
  unfold initIirs; split <;> rfl

/-! ## `powerOnReset` (R300): what is not the block's stays -/

@[simp] theorem powerOnReset_cfg (s : State) : (powerOnReset s).cfg = s.cfg := rfl
@[simp] theorem powerOnReset_mem (s : State) : (powerOnReset s).mem = s.mem := rfl
@[simp] theorem powerOnReset_readable (s : State) : (powerOnReset s).readable = s.readable := rfl
@[simp] theorem powerOnReset_writable (s : State) : (powerOnReset s).writable = s.writable := rfl
@[simp] theorem powerOnReset_port (s : State) : (powerOnReset s).port = s.port := rfl

end Sys2Proof.Machine
end

