-- ==== Sys2Proof/Tests/Slice0.lean ====
section
/-! SUPPORT. Tests: the WellFormed smoke, words written out from the encoding tables, values of
95_test_vectors.md (each test names its vector), and the witnesses of the statements' hypotheses. -/

namespace Sys2Proof.Tests

open Sys2Proof Sys2Proof.Machine Sys2Proof.Claims

/-! ## WellFormed: an ill-formed term for each check -/

theorem test_setctl_register_too_wide_refused : (Instr.setctl 256 0).wf = false := by decide
theorem test_getctl_register_too_wide_refused : (Instr.getctl 256).wf = false := by decide
theorem test_getctl_widest_register_accepted : (Instr.getctl 255).wf = true := by decide
theorem test_reference_config_accepted : Config.reference.wf = true := by decide
theorem test_empty_hsync_window_refused : { Config.reference with hsyncWindow := 0 }.wf = false := by decide
theorem test_wide_vsync_window_refused : { Config.reference with vsyncWindow := 2 ^ 31 }.wf = false := by decide
theorem test_zero_hsync_threshold_refused : { Config.reference with hsyncThresh := 0 }.wf = false := by decide
theorem test_negative_vsync_threshold_refused : { Config.reference with vsyncThresh := -1 }.wf = false := by decide

/-! ## Decoding: words of the table of V1 and of R111, bit by bit -/

theorem test_decode_init :
    decode [0x01000000, 0x00000280, 0x000001E0, 0x00000005, 0x00100000] =
      .ok (.init 640 480 5 0x00100000, []) := by decide
theorem test_decode_resize :
    decode [0x02000000, 640, 480, 2, 0x00200000, 7] = .ok (.resize 640 480 2 0x00200000, [7]) := by decide
theorem test_decode_reset : decode [0x03000000] = .ok (.reset, []) := by decide
theorem test_decode_modulate : decode [0x04000000, 0x09000023] = .ok (.modulate, [0x09000023]) := by decide
theorem test_decode_demodulate : decode [0x05000000, 0x00000014] = .ok (.demodulate 20, []) := by decide
theorem test_decode_bpp4fmt : decode [0x06000000, 0x00000001] = .ok (.bpp4fmt 1, []) := by decide
theorem test_decode_sincos14 : decode [0x07000000, 0x00001000] = .ok (.sincos14 4096, []) := by decide
theorem test_decode_setctl : decode [0x08000015, 0x00000001] = .ok (.setctl 0x15 1, []) := by decide
theorem test_decode_getctl : decode [0x09000023] = .ok (.getctl 0x23, []) := by decide
theorem test_decode_opcode_zero : decode [0x00000000] = .error .illegalOpcode := by decide
theorem test_decode_opcode_ten : decode [0x0A000000] = .error .illegalOpcode := by decide
theorem test_decode_modulate_reserved_bits : decode [0x04000001] = .error .reservedBits := by decide
theorem test_decode_getctl_reserved_bits : decode [0x09000123] = .error .reservedBits := by decide
theorem test_decode_init_one_word_short : decode [0x01000000, 1, 1, 0] = .error .operandsMissing := by decide
/-- The table numbers a SETCTL of 64 bits: the header in bits 31..0, the value in bits 63..32. -/
theorem test_table_word_setctl : decodeTableWord 64 (0x0000005A * 2 ^ 32 + 0x08000000) = some (.setctl 0 90) := by
  decide
theorem test_table_word_above_nbits_is_zero : decodeTableWord 32 (1 * 2 ^ 32 + 0x07000000) = some (.sincos14 0) := by
  decide

/-! ## Small states -/

/-- The response an outcome carries. -/
def responseOf : Result → Option Response
  | .next t => t.response
  | .fault _ => none
  | .refused _ => none

/-- A field of the state an outcome carries, `d` where there is none. -/
def fieldOfNext {α : Type} (f : State → α) (d : α) : Result → α
  | .next t => f t
  | .fault _ => d
  | .refused _ => d

/-- The reset state with words at the port. -/
def presented (ws : List Word) : State := { State.reset with port := ws }

/-- An initialized block with an output descriptor and a source image; the field buffers are empty, so that a
step costs nothing (the statements that need full buffers have their own witness). -/
def ready : State :=
  { State.reset with
    initialized := true, analog := #[], inp := #[], ccf := [],
    output := { outw := 2, outh := 480, format := 5, base := 0x1000 },
    settings := { Settings.zero with data := 0x2000, w := 2, h := 2, raw := true, asColor := true } }

/-! ## One step of each command -/

/-- V8, first row. -/
theorem test_init_answers_ok :
    responseOf (step (presented [0x01000000, 8, 240, 5, 0x00100000])) = okResponse 0 0 := by decide
/-- V8: the region ends one byte past the top of memory. -/
theorem test_init_past_the_top_faults :
    responseOf (exec (.init 32767 32767 5 0x0003FFFD) State.reset) = (faultedWith 3 State.reset).response := by decide
/-- V8. -/
theorem test_resize_replaces_descriptor :
    fieldOfNext State.output .zero (exec (.resize 640 480 2 0x00200000) ready) =
      { outw := 640, outh := 480, format := 2, base := 0x00200000 } := by decide
/-- V8: before INIT. -/
theorem test_resize_before_init_faults :
    fieldOfNext State.fault 0 (exec (.resize 640 480 2 0x00200000) State.reset) = 4 := by decide
/-- V8: `scanlines` and `blend` are kept. -/
theorem test_reset_keeps_scanlines_and_blend :
    fieldOfNext State.monitor .zero (exec .reset { ready with
      hsync := 892,
      monitor := { Monitor.zero with hue := 90, saturation := 5, scanlines := true, blend := true } }) =
      { hue := 0, saturation := 10, brightness := 0, contrast := 180, blackPoint := 0, whitePoint := 100,
        scanlines := true, blend := true } := by decide
/-- V8. -/
theorem test_reset_zeroes_hsync :
    fieldOfNext State.hsync 1 (exec .reset { ready with hsync := 892 }) = 0 := by decide
/-- V9.5: `S_W = 0`. -/
theorem test_modulate_zero_width_faults :
    fieldOfNext State.fault 0 (exec .modulate { ready with settings := { ready.settings with w := 0 } }) = 3 := by
  decide
/-- V9.5: `S_FORMAT = 9` loads the low-pass coefficients. -/
theorem test_modulate_unknown_format_loads_iirs :
    fieldOfNext (fun t => (t.iirY.c, t.iirI.c, t.iirQ.c)) (0, 0, 0)
      (exec .modulate { ready with settings := { ready.settings with format := 9 } }) = (1233, 574, 232) := by decide
/-- R211: a negative noise level. -/
theorem test_demodulate_negative_noise_faults :
    fieldOfNext State.fault 0 (exec (.demodulate (-1)) ready) = 3 := by decide
/-- R211: an unrecognized output format. -/
theorem test_demodulate_unknown_format_keeps_rn :
    fieldOfNext State.rn 0 (exec (.demodulate 0) { ready with
      rn := 194, output := { ready.output with format := 6 } }) = 194 := by decide
/-- V6. -/
theorem test_bpp4fmt_bgra : responseOf (step (presented [0x06000000, 5])) = okResponse 4 0 := by decide
/-- V6. -/
theorem test_bpp4fmt_negative : responseOf (exec (.bpp4fmt 0x80000000) State.reset) = okResponse 0 0 := by decide
/-- V2: angle 1501. -/
theorem test_sincos14_interpolates :
    responseOf (step (presented [0x07000000, 0x000005DD])) = okResponse 17822 27466 := by decide
/-- V2: angle -5000. -/
theorem test_sincos14_fourth_quadrant :
    responseOf (exec (.sincos14 (-5000)) State.reset) = okResponse (-30778) (-11118) := by decide
/-- V7. -/
theorem test_setctl_negative_hue :
    fieldOfNext (fun t => t.monitor.hue) 0 (step (presented [0x08000000, 0xFFFFFFA6])) = -90 := by decide
/-- V7. -/
theorem test_setctl_blend_two_faults :
    responseOf (exec (.setctl 7 2) State.reset) = some { status := .fault 3, r0 := 0, r1 := 0 } := by decide
/-- V7: STATUS at power-on. -/
theorem test_getctl_status : responseOf (step (presented [0x0900000F])) = okResponse 0 0 := by decide
/-- V1: one past the `ccf` window of pattern 1. -/
theorem test_getctl_past_ccf_faults : fieldOfNext State.fault 0 (step (presented [0x09000028])) = 2 := by decide
/-- withFetchWord presents the words so that the very next step runs them. -/
theorem test_withFetchWord_runs_first :
    responseOf (step ((presented [0x03000000]).withFetchWord 64 (5 * 2 ^ 32 + 0x06000000))) = okResponse 4 0 := by
  decide
/-- R284: a faulted block answers each word with the stored cause and consumes it. -/
theorem test_faulted_block_refuses_words :
    fieldOfNext State.port [] (step { presented [0x06000000, 5] with fault := 2 }) = [5] := by decide

/-! ## Values inside the commands -/

/-- V3. -/
theorem test_expx_block_values : (expx (-1887), expx (-674), expx (-247)) = (815, 1474, 1816) := by decide
/-- V4: iirY from 0, inputs -1000, -1000. -/
theorem test_iir_floors_negative_products :
    (iirStep { c := 1233, h := 0 } (-1000)).h = -603 ∧ (iirStep { c := 1233, h := -603 } (-1000)).h = -843 := by decide
/-- V5: eqY of pattern 1, 1000 then zeros. -/
theorem test_equalizer_luma_impulse :
    equalizerOutputs (eqSetup Config.reference Config.reference.eqY) [1000, 0, 0, 0, 0] =
      [115, 241, 174, 282, 81] := by decide
/-- V5: eqQ of pattern 1, -1000 repeated. -/
theorem test_equalizer_q_step :
    equalizerOutputs (eqSetup Config.reference Config.reference.eqQ) [-1000, -1000, -1000, -1000] =
      [-34, -113, -225, -352] := by decide
/-- V9: the carrier tables of `S_HUE = 0`. -/
theorem test_carrier_tables :
    (ccburst ready.settings, ccmodI ready.settings, ccmodQ ready.settings) =
      (#v[17, 26, -18, -27], #v[0, 32, 0, -32], #v[-32, 0, 32, 0]) := by decide
/-- V9.1: the rectangle of a raw 2 by 2 image. -/
theorem test_raw_rectangle : destRect Config.reference ready.settings = { destw := 2, desth := 2, xo := 528, yo := 140 } := by
  decide
/-- V9.3: the burst from sample 97 on with `inv_phase = 1`. -/
theorem test_burst_samples :
    [97, 98, 99, 100].map (burstSample Config.reference ready.settings (ccburst ready.settings)) =
      [-17, 10, 16, -12] := by decide

/-- The 2 by 2 image of V9.1: white, red, green, blue. -/
def image : Memory :=
  [(0x2000, 255), (0x2001, 255), (0x2002, 255), (0x2003, 255), (0x2007, 255), (0x200B, 255)]

/-- V9.1: the low-pass histories the last row (green, blue) leaves. -/
theorem test_modulate_last_row_histories :
    (paintRow (paintOf { ready with mem := image } .rgb) 1
      (#[], { y := { c := 1233, h := 9 }, i := { c := 574, h := 9 }, q := { c := 232, h := 9 } })).2 =
      { y := { c := 1233, h := 213 }, i := { c := 574, h := -150 }, q := { c := 232, h := -19 } } := by decide
/-- V9.1: the level of the white pixel. -/
theorem test_modulate_white_level :
    ireLevel 0 100 (remodulate (paintOf ready .rgb)
      (iirsStep { y := { c := 1233, h := 0 }, i := { c := 574, h := 0 }, q := { c := 232, h := 0 } }
        (rgbToYiq { r := 255, g := 255, b := 255 })) 0) = 66 := by decide
/-- R213: the hue rotation of `hue = 0`, at the scale of `huesn` and `huecs`. -/
theorem test_hue_rotation : (asr (hueRotation 0).1 11, asr (hueRotation 0).2 11) = (8, 13) := by decide
/-- V10: the generator from 194 and the first noisy samples. -/
theorem test_noise_generator :
    [lcg 194, lcg (lcg 194), lcg (lcg (lcg 194))] = [0x0AD6C61D, 0x87D8422E, 0xD8043A61] := by decide
theorem test_noisy_samples :
    [0x0AD6C61D, 0x87D8422E, 0xD8043A61].map (fun rn => noisySample 20 rn (-40)) = [-34, -34, -50] := by decide

/-! ## Witnesses: states and operands that meet a statement's hypotheses -/

/-- The step or command answers a next state. -/
def Completes (r : Result) : Prop := ∃ t, r = .next t

theorem witness_power_on_reset : { ready with resetInput := true, fault := 5 }.resetInput = true := by decide

theorem witness_step_runs_the_decoded_command :
    (presented [0x07000000, 1, 2]).resetInput = false ∧ (presented [0x07000000, 1, 2]).fault = 0 ∧
      decode (presented [0x07000000, 1, 2]).port = .ok (.sincos14 1, [2]) := by decide

theorem witness_illegal_headers :
    IllegalHeader 0x00FFFFFF ∧ IllegalHeader 0x0A000000 ∧ IllegalHeader 0xFF000000 ∧ IllegalHeader 0x07000001 ∧
      IllegalHeader 0x08000100 := by
  simp [IllegalHeader]

theorem witness_legal_headers :
    ¬ IllegalHeader 0x01000000 ∧ ¬ IllegalHeader 0x07000000 ∧ ¬ IllegalHeader 0x080000FF ∧
      ¬ IllegalHeader 0x090000FF := by
  simp [IllegalHeader]

theorem witness_illegal_encoding_state :
    (presented [0x0A000000, 3]).resetInput = false ∧ (presented [0x0A000000, 3]).fault = 0 ∧
      (presented [0x0A000000, 3]).port = 0x0A000000 :: [3] := by decide

theorem witness_unimplemented_registers :
    ¬ Implemented Config.reference 0x1C ∧ ¬ Implemented Config.reference 0x28 ∧
      ¬ Implemented { Config.reference with chroma := .vertical } 0x24 := by
  simp [Implemented, ccVper, Config.reference]

theorem witness_read_only_registers :
    (Implemented Config.reference 0x08 ∧ ¬ Sys2Proof.Claims.Writable 0x08) ∧
      (Implemented Config.reference 0x0F ∧ ¬ Sys2Proof.Claims.Writable 0x0F) ∧
      (Implemented Config.reference 0x27 ∧ ¬ Sys2Proof.Claims.Writable 0x27) := by
  simp [Implemented, Sys2Proof.Claims.Writable, ccVper, Config.reference]

theorem witness_missing_operands :
    ¬ IllegalHeader 0x01000000 ∧ [1, 2, 3].length < operandCount ((0x01000000 : Word).toNat / 2 ^ 24) ∧
      ¬ IllegalHeader 0x080000FF ∧ ([] : List Word).length < operandCount ((0x080000FF : Word).toNat / 2 ^ 24) := by
  simp [IllegalHeader, operandCount]

theorem witness_fault_is_terminal_word :
    { presented [7] with fault := 5 }.resetInput = false ∧ { presented [7] with fault := 5 }.fault ≠ 0 ∧
      { presented [7] with fault := 5 }.port = 7 :: [] := by decide

theorem witness_fault_is_terminal_cleared :
    ∃ t, step { State.reset with fault := 5, resetInput := true } = .next t ∧ (5 : BitVec 8) ≠ 0 ∧ t.fault ≠ 5 :=
  ⟨powerOnReset { State.reset with fault := 5, resetInput := true }, rfl, by decide, by decide⟩

theorem witness_faults_are_precise :
    ∃ t, State.reset.fault = 0 ∧ exec (.getctl 0x1C) State.reset = .next t ∧ t.fault ≠ 0 :=
  ⟨faulted .illegalRegister State.reset, rfl, rfl, by decide⟩

theorem witness_uninitialized : State.reset.initialized = false := rfl

theorem witness_uninitialized_other_commands :
    State.reset.fault ≠ 4 ∧ Completes (exec (.bpp4fmt 3) State.reset) ∧ Completes (exec (.sincos14 3) State.reset) ∧
      Completes (exec (.init 0 0 0 0) State.reset) ∧ Completes (exec (.setctl 0 3) State.reset) ∧
      Completes (exec (.getctl 0) State.reset) :=
  ⟨by decide, ⟨_, rfl⟩, ⟨_, rfl⟩, ⟨_, rfl⟩, ⟨_, rfl⟩, ⟨_, rfl⟩⟩

theorem witness_encoding_round_trips :
    (Instr.setctl 255 7).wf = true ∧ decode [0x090000FF, 5] = .ok (.getctl 255, [5]) := by decide

/-! ### Descriptors -/

theorem witness_descriptor_smallest : DescriptorFits 1 1 0 0xFFFFFFFD := by
  simp [DescriptorFits, bytesPerPixel]
theorem witness_descriptor_largest : DescriptorFits 32767 32767 5 0x0003FFFC := by
  simp [DescriptorFits, bytesPerPixel]
theorem witness_descriptor_unknown_format : DescriptorFits 32767 32767 9 0xFFFFFFFF := by
  simp [DescriptorFits, bytesPerPixel]
theorem witness_descriptor_one_past : ¬ DescriptorFits 32767 32767 5 0x0003FFFD := by
  simp [DescriptorFits, bytesPerPixel]
theorem witness_descriptor_zero_width : ¬ DescriptorFits 0 1 5 0 := by
  simp [DescriptorFits]
theorem witness_descriptor_wide : ¬ DescriptorFits 32768 1 9 0 := by
  simp [DescriptorFits]

/-- With the reference parameters and either pattern INIT completes. -/
theorem witness_reference_equalizers (p : ChromaPattern) :
    DescriptorFits 8 240 5 0x100000 ∧
      ∃ t, exec (.init 8 240 5 0x100000)
        { State.reset with cfg := { Config.reference with chroma := p } } = .next t := by
  refine ⟨?_, _, rfl⟩
  simp [DescriptorFits, bytesPerPixel]

theorem witness_resize_and_reset : ready.initialized = true ∧ DescriptorFits 640 480 2 0x200000 := by
  refine ⟨rfl, ?_⟩
  simp [DescriptorFits, bytesPerPixel]

/-! ### Filters -/

theorem witness_iir_from_above :
    (0 : Int) < (1233 : Word).toInt ∧ (1233 : Word).toInt < 2048 ∧
      (-2 : Int) ^ 19 ≤ (-262144 : Word).toInt - (262144 : Word).toInt ∧
      (-262144 : Word).toInt - (262144 : Word).toInt ≤ 2 ^ 19 ∧ (-262144 : Word).toInt < (262144 : Word).toInt := by
  decide

theorem witness_iir_from_below :
    (0 : Int) < (2047 : Word).toInt ∧ (2047 : Word).toInt < 2048 ∧
      (262144 : Word).toInt - (-262144 : Word).toInt ≤ 2 ^ 19 ∧ (-262144 : Word).toInt ≤ (262144 : Word).toInt := by
  decide

/-- An equalizer at rest on the input 100. -/
def restingEqualizer : Equalizer :=
  { lf := 42156, hf := 79824, g0 := 65536, g1 := 8192, g2 := 9175, fL0 := 100, fL1 := 100, fL2 := 100, fL3 := 100,
    fH0 := 100, fH1 := 100, fH2 := 100, fH3 := 100, h0 := 100, h1 := 100, h2 := 100 }

/-- V5: the constant input 100 settles at 100. -/
theorem witness_equalizer_steady_state : eqRun restingEqualizer 100 = (restingEqualizer, 100) := by decide

/-! ### Control registers -/

theorem witness_setctl_refused : ¬ Sys2Proof.Claims.Writable 0x0E ∧ ¬ Sys2Proof.Claims.Writable 0x1C := by
  simp [Sys2Proof.Claims.Writable]
theorem witness_setctl_illegal_value : Sys2Proof.Claims.Writable 0x1B ∧ OneBit 0x1B ∧ (2 : Word) ≠ 0 ∧ (2 : Word) ≠ 1 := by
  simp [Sys2Proof.Claims.Writable, OneBit]
theorem witness_setctl_flag : Sys2Proof.Claims.Writable 0x06 ∧ OneBit 0x06 ∧ ((1 : Word) = 0 ∨ (1 : Word) = 1) := by
  simp [Sys2Proof.Claims.Writable, OneBit]
theorem witness_setctl_word : Sys2Proof.Claims.Writable 0x1A ∧ ¬ OneBit 0x1A := by
  simp [Sys2Proof.Claims.Writable, OneBit]
theorem witness_setctl_other_register : ReadsAs ready 0x12 2 ∧ ReadsAs ready 0x0F 1 ∧ ReadsAs ready 0x27 0 :=
  ⟨rfl, rfl, rfl⟩
theorem witness_getctl_ccf_window :
    1 < ccVper Config.reference ∧ (0x20 + 1 * 4 + 3 = 0x27) ∧ ¬ Implemented Config.reference 0x28 := by
  simp [ccVper, Config.reference, Implemented]

/-! ### MODULATE -/

/-- Every byte of the host's address space is admitted to a range inside it. -/
theorem admitted_wholeSpace (a n : Nat) (h : a + n ≤ 2 ^ 32) : Admitted wholeSpace a n := by
  refine ⟨h, fun x h0 h1 => ⟨_, List.mem_singleton.mpr rfl, Nat.zero_le _, ?_⟩⟩
  simp only [addressSpace]
  omega

theorem ready_modulate (s : State) (hi : s.initialized = true) (hs : s.settings = ready.settings)
    (hc : s.cfg = Config.reference) (hr : s.readable = wholeSpace) : ModulateReady s := by
  refine ⟨hi, by rw [hs]; decide, by rw [hs, hc]; unfold ModulateOperandsOk; decide, ?_⟩
  rw [hr, hs]
  exact admitted_wholeSpace _ _ (by decide)

theorem exec_modulate_ready (s : State) (hi : s.initialized = true) (hs : s.settings = ready.settings)
    (hc : s.cfg = Config.reference) (hr : s.readable = wholeSpace) :
    exec .modulate s = .next (answered 0 0 (modulateField .rgb (initIirs s))) := by
  have hk : modulateCheck s PixelFormat.rgb.bytes = none := by
    unfold modulateCheck
    rw [hs, hc, hr]
    decide
  have hf : pixelFormat? s.settings.format = some .rgb := by rw [hs]; decide
  simp [exec, execModulate, needsInit, hi, hf, hk, respondOk]

/-- An initialized block with full buffers, with the settings of `ready`. -/
def full : State :=
  { State.reset with initialized := true, output := ready.output, settings := ready.settings }

theorem full_sizes : full.analog.size = fieldSize full.cfg ∧ full.inp.size = fieldSize full.cfg := by
  constructor <;> exact Array.size_replicate

theorem witness_modulate_runs : ModulateReady full ∧ Completes (exec .modulate full) :=
  ⟨ready_modulate full rfl rfl rfl rfl, _, exec_modulate_ready full rfl rfl rfl rfl⟩

theorem witness_modulate_outside_rectangle :
    ¬ InRect full.cfg full.settings 140 527 ∧ ¬ InRect full.cfg full.settings 261 909 ∧
      ¬ InRect full.cfg full.settings 0 0 := by
  unfold InRect
  decide

theorem witness_modulate_inside_rectangle :
    pixelFormat? full.settings.format = some .rgb ∧ ((1 : Nat) : Int) < rectWidth full.cfg full.settings ∧
      ((1 : Nat) : Int) < rectHeight full.settings := by decide

theorem witness_modulate_operand_check_fails :
    ¬ ModulateOperandsOk Config.reference { ready.settings with w := 64, h := 48, xoffset := 400 } := by
  unfold ModulateOperandsOk
  decide

theorem witness_modulate_region_check_fails :
    ModulateOperandsOk Config.reference { ready.settings with data := 0xFFFFFFF5 } ∧
      ¬ Admitted wholeSpace (0xFFFFFFF5 : Word).toNat (sourceBytes { ready.settings with data := 0xFFFFFFF5 }) := by
  refine ⟨by unfold ModulateOperandsOk; decide, fun h => ?_⟩
  have h := h.1
  revert h
  decide

theorem witness_modulate_not_readable : ¬ Admitted [{ base := 0, size := 0x200B }] 0x2000 12 := by
  intro h
  obtain ⟨r, hr, h0, h1⟩ := h.2 0x200B (by decide) (by decide)
  rw [List.mem_singleton.mp hr] at h1
  revert h1
  decide

theorem witness_modulate_unknown_format : ready.initialized = true ∧ bytesPerPixel (6 : Word).toInt = 0 := by decide

theorem witness_carrier_tables :
    -200000 < (-199999 : Word).toInt ∧ (199999 : Word).toInt < 200000 ∧ ready.settings.asColor = true ∧
      Settings.zero.asColor = false := by decide

theorem witness_chroma_patterns :
    Config.reference.chroma = .checkered ∧ { Config.reference with chroma := .vertical }.chroma = .vertical := by decide

/-! ### DEMODULATE -/

theorem ready_demodulate (s : State) (hi : s.initialized = true) (ho : s.output = ready.output)
    (hr : s.readable = wholeSpace) (hw : s.writable = wholeSpace) (noise : Word) (hn : 0 ≤ noise.toInt) :
    DemodulateReady s noise := by
  refine ⟨hi, hn, by rw [ho]; decide, ?_, ?_, ?_⟩
  · rw [ho]
    unfold DescriptorFits
    decide
  · rw [hw, ho]
    exact admitted_wholeSpace _ _ (by decide)
  · rw [hr, ho]
    exact admitted_wholeSpace _ _ (by decide)

theorem exec_demodulate_ready (s : State) (hi : s.initialized = true) (ho : s.output = ready.output)
    (hr : s.readable = wholeSpace) (hw : s.writable = wholeSpace) (noise : Word) (hn : 0 ≤ noise.toInt) :
    exec (.demodulate noise) s = .next (answered 0 0 (demodulateField .bgra noise s)) := by
  have hf : pixelFormat? s.output.format = some .bgra := by rw [ho]; decide
  have hb : outputBytes s .bgra = 3840 := by unfold outputBytes; rw [ho]; decide
  have hbase : s.output.base.toNat = 0x1000 := by rw [ho]; decide
  have ha : admits wholeSpace 0x1000 3840 = true := by decide
  have hn' : ¬ noise.toInt < 0 := by omega
  simp [exec, execDemodulate, needsInit, hi, hn', hf, hb, hbase, hr, hw, ha, respondOk]

theorem witness_demodulate_runs : DemodulateReady full 20 ∧ Completes (exec (.demodulate 20) full) :=
  ⟨ready_demodulate full rfl rfl rfl rfl 20 (by decide), _, exec_demodulate_ready full rfl rfl rfl rfl 20 (by decide)⟩

theorem witness_demodulate_seeds_in_range :
    0 ≤ ({ full with hsync := 909, vsync := 261 } : State).hsync.toInt ∧
      ({ full with hsync := 909, vsync := 261 } : State).hsync.toInt < hres full.cfg ∧
      ({ full with hsync := 909, vsync := 261 } : State).vsync.toInt < 262 := by decide

theorem witness_demodulate_entry :
    (-1 : Word).toInt < 0 ∧ bytesPerPixel (6 : Word).toInt = 0 ∧ ¬ Admitted [] 0x1000 3840 ∧
      DescriptorFits ready.output.outw ready.output.outh ready.output.format ready.output.base := by
  refine ⟨by decide, by decide, fun h => ?_, by unfold DescriptorFits; decide⟩
  obtain ⟨r, hr, _⟩ := h.2 0x1000 (by decide) (by decide)
  exact absurd hr List.not_mem_nil

/-! ### The searches -/

/-- Forty samples of -127 at the start of line 0. -/
def loudStart : Buffer := Array.replicate 40 (-127)

/-- A configuration with a search window of one. -/
def narrow : Config := { Config.reference with vsyncWindow := 1, hsyncWindow := 1 }

theorem witness_vertical_search_hit :
    Config.reference.wf = true ∧ 0 ≤ (8 : Word).toInt ∧ (8 : Word).toInt < 262 ∧
      Config.reference.vsyncWindow < 2 ^ 30 ∧ vsyncHit Config.reference loudStart 8 = some (0, 29) := by decide

/-- On an empty buffer every sample reads 0, and no sum reaches a negative limit. -/
theorem integrateLine_empty (limit : Word) (hl : limit.toInt < 0) (base fuel j : Nat) :
    integrateLine #[] base limit fuel j 0 = none := by
  induction fuel generalizing j with
  | zero => rfl
  | succ n ih =>
    have hs : (0 : Word) + sample #[] (base + j) = 0 := by simp [sample, sext8]
    have h0 : ¬ (0 : Word).toInt ≤ limit.toInt := by
      have : (0 : Word).toInt = 0 := by decide
      omega
    unfold integrateLine
    simp only [hs]
    rw [if_neg h0]
    exact ih (j + 1)

theorem vsyncSearch_empty (c : Config) (hl : (vsyncLimit c).toInt < 0) (vsync : Word) (fuel : Nat) (i : Int) :
    vsyncSearch c #[] vsync fuel i = none := by
  induction fuel generalizing i with
  | zero => rfl
  | succ n ih =>
    unfold vsyncSearch
    simp only [integrateLine_empty _ hl]
    exact ih (i + 1)

theorem witness_vertical_search_no_hit :
    narrow.wf = true ∧ 0 ≤ (261 : Word).toInt ∧ (261 : Word).toInt < 262 ∧ vsyncHit narrow #[] 261 = none :=
  ⟨by decide, by decide, by decide, vsyncSearch_empty narrow (by decide) 261 2 (-1)⟩

/-- On a block with an empty field buffer DEMODULATE leaves it empty. -/
theorem demodulateField_inp_empty (f : PixelFormat) (noise : Word) (s : State) (h : s.inp = #[]) :
    (demodulateField f noise s).inp = #[] := by
  have hz : ∀ acc : Word × Buffer, acc.2.size = 0 → (addNoise s.cfg noise s.analog acc).2.size = 0 := by
    intro acc ha
    unfold addNoise
    exact forRange_rule 0 _ acc _ (fun x => x.2.size = 0) ha (by intro i x _ _ hx; simpa using hx)
  have := hz (s.rn, s.inp) (by simp [h])
  simpa [demodulateField, scanState, scanDone, noiseState] using Array.eq_empty_of_size_eq_zero this

/-- A block with `ready`'s descriptor and an empty field buffer runs DEMODULATE and ends with it empty. -/
theorem demodulate_empty (s : State) (hi : s.initialized = true) (ho : s.output = ready.output)
    (hr : s.readable = wholeSpace) (hw : s.writable = wholeSpace) (h : s.inp = #[]) :
    ∃ t, DemodulateReady s 0 ∧ exec (.demodulate 0) s = .next t ∧ t.inp = #[] := by
  refine ⟨answered 0 0 (demodulateField .bgra 0 s), ready_demodulate s hi ho hr hw 0 (by decide),
    exec_demodulate_ready s hi ho hr hw 0 (by decide), ?_⟩
  rw [← demodulateField_inp_empty .bgra 0 s h]
  rfl

/-- The four clauses of the vertical seed: a build without the search, a hit, and no hit without and with slew.
The threshold 0 makes the first sample of the first candidate line a hit. -/
theorem witness_vertical_seed (c : Config) :
    ∃ t, DemodulateReady { ready with cfg := c, vsync := 261 } 0 ∧
      exec (.demodulate 0) { ready with cfg := c, vsync := 261 } = .next t ∧ t.inp = #[] :=
  demodulate_empty { ready with cfg := c, vsync := 261 } rfl rfl rfl rfl rfl

theorem witness_vertical_seed_clauses :
    { Config.reference with doVsync := false }.doVsync = false ∧
      vsyncHit { narrow with vsyncThresh := 0 } #[] 261 = some (260, 0) ∧
      (narrow.doVsync = true ∧ vsyncHit narrow #[] 261 = none ∧ narrow.syncFailSlew = false) ∧
      vsyncHit { narrow with syncFailSlew := true } #[] 261 = none :=
  ⟨rfl, by decide, ⟨rfl, vsyncSearch_empty narrow (by decide) 261 2 (-1), rfl⟩,
    vsyncSearch_empty { narrow with syncFailSlew := true } (by decide) 261 2 (-1)⟩

/-- A build without the horizontal search. -/
def noHsync : State := { ready with cfg := { Config.reference with doHsync := false } }

theorem witness_horizontal_search_disabled :
    noHsync.cfg.doHsync = false ∧ ∃ t, DemodulateReady noHsync 0 ∧ exec (.demodulate 0) noHsync = .next t ∧ t.inp = #[] :=
  ⟨rfl, demodulate_empty noHsync rfl rfl rfl rfl rfl⟩

/-- `ready` with both seeds at the end of their range. -/
def lateSeeds : State := { ready with hsync := 909, vsync := 261 }

theorem witness_lines_leave_the_seed :
    (∃ t, DemodulateReady lateSeeds 0 ∧ exec (.demodulate 0) lateSeeds = .next t ∧ t.inp = #[]) ∧
      0 ≤ lateSeeds.hsync.toInt ∧ lateSeeds.hsync.toInt < hres lateSeeds.cfg ∧ 0 ≤ lateSeeds.vsync.toInt ∧
      lateSeeds.vsync.toInt < 262 :=
  ⟨demodulate_empty lateSeeds rfl rfl rfl rfl rfl, by decide⟩

/-- The constants of a line loop over the samples `inp`, for 2 by `outh` pixels. -/
def scan (inp : Buffer) (vsync outh : Word) : Scan :=
  { cfg := Config.reference, inp := inp, vsync := vsync, monitor := Monitor.zero,
    output := { ready.output with outh := outh }, format := .bgra, bright := 0, huesn := 0, huecs := 0,
    fieldOff := 0, maxE := 96384, start := demodInput 0 ready }

/-- R231: the carrier of a body line of scenario 2. -/
theorem test_carrier_of_a_red_line :
    carrier { scan #[] 0 480 with huesn := 8, huecs := 13, monitor := { Monitor.zero with saturation := 10 } }
      #v[-1536, -2176, 1280, 2048] 3 = #v[-1760, -48400, 1760, 48400] := by decide

/-- The field of `loudStart` read from the last line, one sample before the field wraps. -/
theorem witness_horizontal_search_hit :
    (1 : Nat) < 262 ∧ (scan loudStart 261 480).vsync.toInt < 262 ∧
      (scan loudStart 261 480).cfg.hsyncWindow < 2 ^ 22 ∧ hsyncHit (scan loudStart 261 480) 1 0 = some (-7) := by decide

theorem witness_horizontal_search_no_hit : hsyncHit (scan #[] 0 480) 261 909 = none := by decide

theorem witness_horizontal_seed :
    0 ≤ (909 : Word).toInt ∧ (909 : Word).toInt < hres Config.reference ∧ Config.reference.hsyncWindow < 2 ^ 22 ∧
      Config.reference.doHsync = true ∧ Config.reference.syncFailSlew = false ∧
      (-(8 : Nat) : Int) ≤ 7 ∧ (7 : Int) < Config.reference.hsyncWindow ∧
      { Config.reference with doHsync := false }.doHsync = false ∧
      { Config.reference with syncFailSlew := true }.syncFailSlew = true := by decide

/-! ### Bounds, bands, pixels -/

theorem witness_burst_average :
    -127 ≤ (127 : Word).toInt ∧ (127 : Word).toInt ≤ 127 ∧ (16256 : Word).toInt ≤ 16256 ∧
      averageBurst 16256 127 = 16256 ∧ averageBurst (-16256) (-127) = -16256 := by decide

theorem witness_burst_integrator :
    (260 : Nat) < 262 ∧ (scan loudStart 261 480).vsync.toInt < 262 ∧ 0 ≤ (909 : Word).toInt ∧
      (909 : Word).toInt < hres (scan loudStart 261 480).cfg := by decide

theorem witness_bloom_noise :
    0 ≤ (4194303 : Word).toInt ∧ (4194303 : Word).toInt < 2 ^ 22 ∧ 0 ≤ (0x7FFFFFFF : Word).toInt := by decide

theorem witness_bands :
    240 ≤ (scan #[] 0 240).output.outh.toInt ∧ (scan #[] 0 32767).output.outh.toInt ≤ 32767 ∧
      (scan #[] 0 32767).fieldOff = 0 := by decide

theorem witness_plain_rows :
    1 ≤ (32767 : Word).toInt ∧ (32767 : Word).toInt ≤ 32767 ∧ (scan #[] 0 480).cfg.doBloom = false ∧
      ((32766 : Nat) : Int) < (32767 : Word).toInt := by decide

/-- `scan` in a build with bloom. -/
def bloomScan : Scan := { scan #[] 0 480 with cfg := { Config.reference with doBloom := true } }

/-- The line buffer and `ccf` of a line loop, with a seed at the end of its range. -/
def lastLine : LineCarry :=
  { hsync := 909, ccf := [zeroRow, zeroRow], eqs := { y := Equalizer.zero, i := Equalizer.zero, q := Equalizer.zero },
    prevE := 2048, lb := Array.replicate 754 { y := 0, i := 0, q := 0 }, mem := [] }

/-- The last line with no field offset has a band; with an offset of two rows it is skipped. -/
theorem witness_line :
    (260 : Nat) < 261 ∧ (scan #[] 261 480).vsync.toInt < 262 ∧ lastLine.hsync.toInt < hres (scan #[] 261 480).cfg ∧
      lastLine.ccf.length = ccVper (scan #[] 261 480).cfg ∧ lastLine.lb.size = avLen (scan #[] 261 480).cfg + 1 ∧
      ((260 : Nat) - 21 : Int) * 480 / 240 + (scan #[] 261 480).fieldOff.toInt < 480 ∧
      480 ≤ ((260 : Nat) - 21 : Int) * 480 / 240 + { scan #[] 261 480 with fieldOff := 2 }.fieldOff.toInt ∧
      (scanWindow (scan #[] 261 480) 2048 0).first = 0 :=
  ⟨by decide, by decide, by decide, rfl, Array.size_replicate, by decide, by decide, rfl⟩

theorem witness_bloom_window :
    bloomScan.cfg.doBloom = true ∧ 1 ≤ bloomScan.output.outw.toInt ∧ 96384 ≤ bloomScan.maxE.toInt ∧
      -65536 ≤ (-65536 : Word).toInt ∧ (65536 : Word).toInt ≤ 65536 := by decide

/-- A line of zero samples has no energy. -/
theorem lineEnergy_empty (e : Scan) (h : e.inp = #[]) (pos : Word) : lineEnergy e pos = 0 := by
  unfold lineEnergy
  refine forRange_rule 0 _ 0 _ (fun x => x = 0) rfl fun i x _ _ hx => ?_
  simp [hx, Scan.input, inpAt, sample, sext8, h]

/-- With bloom the window of a dark line begins inside the line. -/
theorem witness_bloom_line (pos : Word) : (scanWindow bloomScan 2048 pos).first = 53 := by
  have h : scanWindow bloomScan 2048 pos = bloomWindow bloomScan 2048 pos := rfl
  rw [h]
  unfold bloomWindow
  rw [lineEnergy_empty bloomScan rfl]
  decide

/-- `scan` with `blend` set. -/
def blendScan : Scan := { scan #[] 0 480 with monitor := { Monitor.zero with blend := true } }

/-- A full row of two pixels that ends at the top of memory. -/
theorem witness_resample (e : Scan) (he : e = scan #[] 0 480 ∨ e = blendScan) :
    memoryWf image = true ∧ pixelFormat? 5 = some e.format ∧
      0xFFFFFFF8 + 2 * bytesPerPixel (5 : Word).toInt ≤ 2 ^ 32 ∧
      ∀ k : Nat, k < 2 → wrap32 ((plainWindow e 0).scanL.toInt + k * (plainWindow e 0).dx.toInt) <
        (plainWindow e 0).scanR.toInt := by
  rcases he with rfl | rfl <;> decide

/-- A row of two pixels whose second position is `scanR` itself: it ends after one pixel. -/
def shortRow : Window := { prevE := 0, dx := 4096, scanL := 0, scanR := 4096, first := 0, last := 1 }

theorem witness_resample_ends_early :
    (∀ k : Nat, k < 1 → wrap32 (shortRow.scanL.toInt + k * shortRow.dx.toInt) < shortRow.scanR.toInt) ∧
      (1 < 2 ∧ shortRow.scanR.toInt ≤ wrap32 (shortRow.scanL.toInt + (1 : Nat) * shortRow.dx.toInt)) := by decide

/-- R237 and R310 (c): the pixel at `scanR` is not stored. -/
theorem test_row_ends_at_scanR :
    ([0x1000, 0x1004].map fun a => readByte (resample
      { scan #[] 0 480 with monitor := { Monitor.zero with contrast := 256 } } 21
      #[{ y := 1024, i := 0, q := 0 }, { y := 1024, i := 0, q := 0 }] shortRow 2 0 0 0x1000 [(0x1004, 9)]) a) = [255, 9] := by
  decide

/-- R240: an odd new byte over an odd old one leaves the sum of the two halves, each rounded down. -/
theorem test_blended_pixel :
    (readByte (storePixel blendScan [(0x1000, 0x81), (0x1001, 7), (0x1002, 255)] 0x1000 { r := 255, g := 3, b := 7 }) 0x1000,
      readByte (storePixel blendScan [(0x1000, 0x81), (0x1001, 7), (0x1002, 255)] 0x1000 { r := 255, g := 3, b := 7 })
        0x1002) = (67, 254) := by decide

theorem witness_blend : (255 : Word).toNat < 256 ∧ (0 : Word).toNat < 256 := by decide

theorem witness_pixel_store :
    memoryWf image = true ∧ pixelFormat? 2 = some .argb ∧ 0xFFFFFFFC + bytesPerPixel (2 : Word).toInt ≤ 2 ^ 32 ∧
      5 < (6 : Word).toNat := by decide

theorem witness_row_duplication :
    memoryWf image = true ∧ 478 < 480 ∧ rowAddr (scan #[] 0 480) 480 ≤ 2 ^ 32 ∧ 7 < pitch (scan #[] 0 480) := by decide

/-- A block whose search finds nothing: its field is that of `SYNC_FAIL_SLEW`. -/
def unsynced (slew : Bool) : State := { ready with cfg := { narrow with syncFailSlew := slew } }

/-- The rows of a band: with no field offset row 1 of band 0, with the slew option, which makes the field 1, row 2
of band 0. -/
theorem witness_band_rows (slew : Bool) :
    ∃ t, DemodulateReady (unsynced slew) 0 ∧ memoryWf (unsynced slew).mem = true ∧
      exec (.demodulate 0) (unsynced slew) = .next t ∧ fieldOffset (unsynced slew) t = (if slew then 1 else 0) := by
  obtain ⟨t, hr, he, hi⟩ := demodulate_empty (unsynced slew) rfl rfl rfl rfl rfl
  refine ⟨t, hr, rfl, he, ?_⟩
  have hl : (vsyncLimit (unsynced slew).cfg).toInt < 0 := by cases slew <;> decide
  have hv : vsyncHit (unsynced slew).cfg t.inp (unsynced slew).vsync = none := by
    rw [hi]
    exact vsyncSearch_empty _ hl _ _ _
  unfold fieldOffset fieldFound
  rw [hv]
  cases slew <;> decide

/-- A block of `unsynced` with both seeds at the end of their range and its rows of `ccf`. -/
def lateUnsynced (slew : Bool) : State := { unsynced slew with hsync := 909, vsync := 261, ccf := [zeroRow, zeroRow] }

/-- The last pixel of the first row of the last line's band, in either field. -/
theorem witness_painted_picture (slew : Bool) :
    (∃ t, DemodulateReady (lateUnsynced slew) 0 ∧ memoryWf (lateUnsynced slew).mem = true ∧
      exec (.demodulate 0) (lateUnsynced slew) = .next t ∧ t.inp = #[]) ∧
    (lateUnsynced slew).cfg.doBloom = false ∧ (lateUnsynced slew).ccf.length = ccVper (lateUnsynced slew).cfg ∧
    0 ≤ (lateUnsynced slew).hsync.toInt ∧ (lateUnsynced slew).hsync.toInt < hres (lateUnsynced slew).cfg ∧
    0 ≤ (lateUnsynced slew).vsync.toInt ∧ (lateUnsynced slew).vsync.toInt < 262 ∧
    239 * 480 / 240 + 1 < 480 ∧ 1 < (lateUnsynced slew).output.outw.toNat := by
  obtain ⟨t, hr, he, hi⟩ := demodulate_empty (lateUnsynced slew) rfl rfl rfl rfl rfl
  refine ⟨⟨t, hr, rfl, he, hi⟩, rfl, rfl, ?_⟩
  cases slew <;> decide

theorem witness_band_row_bounds :
    (0 * 480 / 240 + 0 < 1 ∧ 1 < min ((0 + 1) * 480 / 240 + 0) 480 - 0) ∧
      (0 * 480 / 240 + 1 < 2 ∧ 2 < min ((0 + 1) * 480 / 240 + 1) 480 - 0) := by decide

/-- A block with `scanlines` set whose search finds nothing: its field is that of `SYNC_FAIL_SLEW`. -/
def interlaced (slew : Bool) : State :=
  { unsynced slew with monitor := { Monitor.zero with scanlines := true } }

/-- Field 0 and field 1 are both reached. -/
theorem witness_fields_interleave (slew : Bool) :
    (interlaced slew).output.outh = 480 ∧ (interlaced slew).monitor.scanlines = true ∧
      ∃ t, DemodulateReady (interlaced slew) 0 ∧ exec (.demodulate 0) (interlaced slew) = .next t ∧
        fieldFound (interlaced slew) t = slew := by
  obtain ⟨t, hr, he, hi⟩ := demodulate_empty (interlaced slew) rfl rfl rfl rfl rfl
  refine ⟨rfl, rfl, t, hr, he, ?_⟩
  have hl : (vsyncLimit (interlaced slew).cfg).toInt < 0 := by cases slew <;> decide
  have hv : vsyncHit (interlaced slew).cfg t.inp (interlaced slew).vsync = none := by
    rw [hi]
    exact vsyncSearch_empty _ hl _ _ _
  unfold fieldFound
  rw [hv]
  rfl

/-- `full` with another settings bank, other low-passes, other equalizer memory, another response and words at the
port. -/
def unreadDiffers : State :=
  { full with
    settings := Settings.zero, iirY := { c := 1, h := 2 }, eqY := { full.eqY with fL0 := 7, h2 := 9 },
    monitor := { full.monitor with whitePoint := 5 }, response := okResponse 1 2, port := [3] }

theorem witness_unread_state :
    full.inp.size = fieldSize full.cfg ∧ unreadDiffers.inp.size = fieldSize unreadDiffers.cfg ∧
      SameReadByDemodulate full unreadDiffers ∧ DemodulateReady full 20 ∧ DemodulateReady unreadDiffers 20 ∧
      Completes (exec (.demodulate 20) full) ∧ Completes (exec (.demodulate 20) unreadDiffers) ∧
      unreadDiffers.eqY ≠ full.eqY :=
  ⟨full_sizes.2, full_sizes.2,
    ⟨rfl, rfl, rfl, rfl, rfl, rfl, rfl, rfl, ⟨rfl, rfl, rfl, rfl, rfl⟩, ⟨rfl, rfl, rfl, rfl, rfl⟩,
      ⟨rfl, rfl, rfl, rfl, rfl⟩, rfl⟩,
    ready_demodulate full rfl rfl rfl rfl 20 (by decide), ready_demodulate unreadDiffers rfl rfl rfl rfl 20 (by decide),
    ⟨_, exec_demodulate_ready full rfl rfl rfl rfl 20 (by decide)⟩,
    ⟨_, exec_demodulate_ready unreadDiffers rfl rfl rfl rfl 20 (by decide)⟩, by decide⟩

/-! ### The invariant -/

/-- An initialized block with a RESET at the port. -/
def aboutToReset : State := { full with port := [0x03000000] }

theorem mem_zeroBuffer (c : Config) (v : Sample) (h : v ∈ zeroBuffer c) : v = 0 := (Array.mem_replicate.mp h).2

theorem witness_invariant_holds : State.Inv aboutToReset where
  analogSize := full_sizes.1
  inpSize := full_sizes.2
  analogRange := fun v hv => by rw [mem_zeroBuffer _ v hv]; decide
  inpRange := fun v hv => by rw [mem_zeroBuffer _ v hv]; decide
  ccfRows := by decide
  hsyncRange := by decide
  vsyncRange := by decide
  descriptor := fun _ => by unfold DescriptorSound; decide
  cause := by decide
  memory := rfl

theorem witness_invariant_step : Completes (step aboutToReset) :=
  ⟨answered 0 0 (resetMonitor (consume aboutToReset [])), rfl⟩

theorem witness_writers :
    ∃ t, exec (.setctl 0 90) State.reset = .next t ∧ t.monitor ≠ State.reset.monitor :=
  ⟨_, rfl, by decide⟩

theorem witness_writers_init :
    ∃ t, exec (.init 1 1 0 0) State.reset = .next t ∧ t.initialized ≠ State.reset.initialized ∧
      t.rn ≠ State.reset.rn ∧ t.output ≠ State.reset.output ∧ t.eqY ≠ State.reset.eqY :=
  ⟨_, rfl, by decide, by decide, by decide, by decide⟩

theorem witness_configuration : Completes (step (presented [0x0900000F])) := ⟨_, rfl⟩

end Sys2Proof.Tests
end

section
/-! Scope: the step runs the decoded command, the sample positions, and the surroundings no step changes (R9, R14,
R26, R61, R117). -/

namespace Sys2Proof.Machine

/-! ## The decoded command (R117) -/

/-- A block without reset input and without fault decodes the words at its port (R117). -/
theorem accept_eq_acceptCommand (s : State) (hreset : s.resetInput = false) (hfault : s.fault = 0) :
    accept s = acceptCommand s := by
  simp [accept, hreset, hfault]

/-- Words that decode to a command run it on the state without them (R117). -/
theorem acceptCommand_of_decode (s : State) (i : Instr) (rest : List Word) (hdecode : decode s.port = .ok (i, rest)) :
    acceptCommand s = .run i (consume s rest) := by
  simp [acceptCommand, hdecode]

/-- Settles O5: the port gives the decoded command and the state with its words consumed. -/
theorem stepRunsTheDecodedCommand : Obligations.StepRunsTheDecodedCommand := by
  intro s i rest hreset hfault hdecode
  rw [step, accept_eq_acceptCommand s hreset hfault, acceptCommand_of_decode s i rest hdecode]
  rfl

/-! ## The sample positions (R14, R190) -/

/-- Every position of a line is a quotient of its length `n` (R11, R13, R14, R190). -/
theorem positions_of_hres (c : Config) (n : Nat) (h : hres c = n) :
    fieldSize c = n * 262 ∧ fpBeg c = 0 * n / 63500 ∧ syncBeg c = 1500 * n / 63500 ∧ bwBeg c = 6200 * n / 63500 ∧
      cbBeg c = 6800 * n / 63500 ∧ bpBeg c = 9300 * n / 63500 ∧ avBeg c = 10900 * n / 63500 ∧
      avLen c = 52600 * n / 63500 ∧ pct c = fun p => p * n / 100 := by
  subst h
  exact ⟨rfl, rfl, rfl, rfl, rfl, rfl, rfl, rfl, rfl⟩

/-- Settles O36: with the line length of the pattern every position is a quotient of numbers. -/
theorem samplePositions : Obligations.SamplePositions := by
  intro c
  refine ⟨fun hc => ?_, fun hc => ?_⟩
  · have hl : hres c = 912 := by simp [hres, ccLine10, ccSamples, hc]
    obtain ⟨hsize, hfp, hsync, hbw, hcb, hbp, hav, hlen, hpct⟩ := positions_of_hres c 912 hl
    exact ⟨hl, hsize, by simp [ccVper, hc], hfp, hsync, hbw, hcb, hbp, hav, hlen, by rw [hpct]; rfl⟩
  · have hl : hres c = 910 := by simp [hres, ccLine10, ccSamples, hc]
    obtain ⟨hsize, hfp, hsync, hbw, hcb, hbp, hav, hlen, hpct⟩ := positions_of_hres c 910 hl
    exact ⟨hl, hsize, by simp [ccVper, hc], hfp, hsync, hbw, hcb, hbp, hav, hlen, by rw [hpct]; rfl⟩

/-! ## The surroundings (R9, R61) -/

/-- `t` has the configuration and the platform's regions of `s`. -/
def SameSurroundings (s t : State) : Prop := t.cfg = s.cfg ∧ t.readable = s.readable ∧ t.writable = s.writable

theorem sameSurroundings_answered (r0 r1 : Word) (s t : State) (h : SameSurroundings s t) :
    SameSurroundings s (answered r0 r1 t) := h

theorem sameSurroundings_faulted (c : Cause) (s : State) : SameSurroundings s (faulted c s) := ⟨rfl, rfl, rfl⟩

/-- SETCTL writes monitor controls or the settings bank only (R270). -/
theorem sameSurroundings_writeCtl (s : State) (v : Word) (r : CtlReg) : SameSurroundings s (writeCtl s v r) := by
  cases r <;> exact ⟨rfl, rfl, rfl⟩

theorem sameSurroundings_demodulateField (f : PixelFormat) (noise : Word) (s : State) :
    SameSurroundings s (demodulateField f noise s) := by
  simp [SameSurroundings, demodulateField]

theorem sameSurroundings_setRegister (r : CtlReg) (v : Word) (s t : State) (h : setRegister r v s = .next t) :
    SameSurroundings s t := by
  rcases setRegister_cases r v s with ⟨_, he⟩ | ⟨_, _, _, he⟩ | ⟨_, _, he⟩ <;> cases he.symm.trans h
  · exact sameSurroundings_faulted _ s
  · exact sameSurroundings_faulted _ s
  · exact sameSurroundings_writeCtl s v r

/-- No command changes the surroundings (R61). -/
theorem sameSurroundings_exec (i : Instr) (s t : State) (h : exec i s = .next t) : SameSurroundings s t := by
  cases i with
  | init w hh f b =>
    rcases execInit_cases w hh f b s with ⟨_, he⟩ | ⟨_, he⟩ <;> cases he.symm.trans h
    · exact ⟨rfl, rfl, rfl⟩
    · exact sameSurroundings_faulted _ s
  | resize w hh f b =>
    rcases execResize_cases w hh f b s with ⟨_, he⟩ | ⟨_, _, he⟩ | ⟨_, _, he⟩ <;> cases he.symm.trans h
    · exact sameSurroundings_faulted _ s
    · exact ⟨rfl, rfl, rfl⟩
    · exact sameSurroundings_faulted _ s
  | reset =>
    rcases execReset_cases s with ⟨_, he⟩ | ⟨_, he⟩ <;> cases he.symm.trans h
    · exact sameSurroundings_faulted _ s
    · exact ⟨rfl, rfl, rfl⟩
  | modulate =>
    rcases execModulate_cases s with ⟨_, he⟩ | ⟨_, _, he⟩ | ⟨_, c, _, _, _, he⟩ | ⟨f, _, _, _, he⟩ <;>
      cases he.symm.trans h
    · exact sameSurroundings_faulted _ s
    · simp [SameSurroundings]
    · exact sameSurroundings_faulted c s
    · simp [SameSurroundings]
  | demodulate noise =>
    rcases execDemodulate_cases noise s with ⟨_, he⟩ | ⟨_, _, he⟩ | ⟨_, _, _, he⟩ | ⟨_, _, _, _, _, he⟩ |
      ⟨f, _, _, _, _, _, he⟩ <;> cases he.symm.trans h
    · exact sameSurroundings_faulted _ s
    · exact sameSurroundings_faulted _ s
    · exact ⟨rfl, rfl, rfl⟩
    · exact sameSurroundings_faulted _ s
    · exact sameSurroundings_answered 0 0 s _ (sameSurroundings_demodulateField f noise s)
  | bpp4fmt format =>
    cases respondOk_next _ _ _ _ h
    exact ⟨rfl, rfl, rfl⟩
  | sincos14 angle =>
    cases respondOk_next _ _ _ _ h
    exact ⟨rfl, rfl, rfl⟩
  | setctl reg v =>
    rcases execSetctl_cases reg v s with ⟨_, he⟩ | ⟨r, _, he⟩
    · cases he.symm.trans h
      exact sameSurroundings_faulted _ s
    · exact sameSurroundings_setRegister r v s t (he.symm.trans h)
  | getctl reg =>
    rcases execGetctl_cases reg s with ⟨_, he⟩ | ⟨_, _, he⟩ <;> cases he.symm.trans h
    · exact sameSurroundings_faulted _ s
    · exact ⟨rfl, rfl, rfl⟩

/-- Settles O60: power-on reset, a refused word and a decode fault keep the surroundings, and so does every
command. -/
theorem configurationNeverChanges : Obligations.ConfigurationNeverChanges := by
  intro s t h
  rcases step_cases s t h with ⟨_, rfl⟩ | ⟨_, rest, _, _, _, rfl⟩ | ⟨_, _, rfl⟩ | ⟨i, rest, _, _, _, he⟩
  · exact ⟨rfl, rfl, rfl⟩
  · exact ⟨rfl, rfl, rfl⟩
  · exact ⟨rfl, rfl, rfl⟩
  · exact sameSurroundings_exec i (consume s rest) t he

end Sys2Proof.Machine
end

section
/-! The rules of R22 to R25 without wrap, and the sine of R143 over the integers. -/

namespace Sys2Proof.Machine

open Sys2Proof.Claims

/-! ## Words that do not wrap (R22 to R25) -/

/-- The integers a 32-bit word holds (R22). -/
def Fits (v : Int) : Prop := -2 ^ 31 ≤ v ∧ v < 2 ^ 31

theorem wrap32_of_fits (v : Int) (h : Fits v) : wrap32 v = v := by
  obtain ⟨h0, h1⟩ := h
  exact Int.bmod_eq_of_le (by omega) (by omega)

theorem fits_toInt (v : Word) : Fits v.toInt := ⟨BitVec.le_toInt v, BitVec.toInt_lt⟩

theorem add_toInt (a b : Word) (h : Fits (a.toInt + b.toInt)) : (a + b).toInt = a.toInt + b.toInt := by
  rw [BitVec.toInt_add]
  exact wrap32_of_fits _ h

theorem sub_toInt (a b : Word) (h : Fits (a.toInt - b.toInt)) : (a - b).toInt = a.toInt - b.toInt := by
  rw [BitVec.toInt_sub]
  exact wrap32_of_fits _ h

/-- The difference of two words that are not negative does not wrap (R22). -/
theorem sub_toInt_of_nonneg (a b : Word) (ha : 0 ≤ a.toInt) (hb : 0 ≤ b.toInt) : (a - b).toInt = a.toInt - b.toInt := by
  obtain ⟨_, ha1⟩ := fits_toInt a
  obtain ⟨_, hb1⟩ := fits_toInt b
  exact sub_toInt a b ⟨by omega, by omega⟩

theorem mul_toInt (a b : Word) (h : Fits (a.toInt * b.toInt)) : (a * b).toInt = a.toInt * b.toInt := by
  rw [BitVec.toInt_mul]
  exact wrap32_of_fits _ h

theorem neg_toInt (a : Word) (h : Fits (-a.toInt)) : (-a).toInt = -a.toInt := by
  rw [BitVec.toInt_neg]
  exact wrap32_of_fits _ h

theorem ofInt_toInt_of_fits (v : Int) (h : Fits v) : (BitVec.ofInt 32 v).toInt = v := by
  rw [BitVec.toInt_ofInt]
  exact wrap32_of_fits v h

theorem shl_toInt_of_fits (v : Word) (k : Nat) (h : Fits (v.toInt * 2 ^ k)) : (shl v k).toInt = v.toInt * 2 ^ k := by
  rw [shl_toInt]
  exact wrap32_of_fits _ h

/-- A truncated quotient by its sign: the floor of the absolute values, with the sign of the dividend (R24). -/
theorem tdiv_eq_ite (a b : Int) : a.tdiv b = if 0 ≤ a then a / b else -(-a / b) := by
  split
  · next h => exact Int.tdiv_eq_ediv_of_nonneg h
  · next h => rw [← Int.tdiv_eq_ediv_of_nonneg (by omega : 0 ≤ -a), Int.neg_tdiv, neg_neg]

/-- A truncated quotient is within `n` when the dividend is within `n` divisors. -/
theorem tdiv_range (a b n : Int) (hb : 0 < b) (h0 : -(n * b) ≤ a) (h1 : a ≤ n * b) :
    -n ≤ a.tdiv b ∧ a.tdiv b ≤ n := by
  rw [tdiv_eq_ite]
  split
  · next h =>
    have hlo := Int.ediv_nonneg h hb.le
    have hhi := Int.ediv_le_of_le_mul hb h1
    omega
  · next h =>
    have hlo := Int.ediv_nonneg (by omega : 0 ≤ -a) hb.le
    have hhi := Int.ediv_le_of_le_mul hb (by omega : -a ≤ n * b)
    omega

/-- A quotient by a positive word does not wrap (R24). -/
theorem tdiv_toInt_of_pos (a b : Word) (hb : 0 < b.toInt) : (tdiv a b).toInt = a.toInt.tdiv b.toInt := by
  obtain ⟨hlo, hhi⟩ := fits_toInt a
  rw [tdiv_toInt, tdiv_eq_ite]
  refine wrap32_of_fits _ ?_
  split
  · next h =>
    have h0 := Int.ediv_nonneg h hb.le
    have h1 := Int.ediv_le_self b.toInt h
    exact ⟨by omega, by omega⟩
  · next h =>
    have h0 := Int.ediv_nonneg (by omega : 0 ≤ -a.toInt) hb.le
    have h1 := Int.ediv_le_self b.toInt (by omega : 0 ≤ -a.toInt)
    exact ⟨by omega, by omega⟩

/-- A word is the integer it reads as. -/
theorem eq_ofInt_of_toInt (w : Word) (v : Int) (h : w.toInt = v) : w = BitVec.ofInt 32 v := by
  rw [← h, BitVec.ofInt_toInt]

/-- `asr` as an integer quotient put back into a word (R23). -/
theorem asr_eq_ofInt (v : Word) (k : Nat) : asr v k = BitVec.ofInt 32 (v.toInt / 2 ^ k) :=
  eq_ofInt_of_toInt _ _ (asr_toInt v k)

/-- `v << k` as an integer product put back into a word (R23). -/
theorem shl_eq_ofInt (v : Word) (k : Nat) : shl v k = BitVec.ofInt 32 (v.toInt * 2 ^ k) := by
  apply BitVec.eq_of_toInt_eq
  rw [shl_toInt, BitVec.toInt_ofInt]

theorem smin_toInt (a b : Word) : (smin a b).toInt = min a.toInt b.toInt := by
  unfold smin
  split <;> omega

/-- The low `k` bits of a word are its remainder by `2^k`. -/
theorem mask_toInt (p m : Word) (k : Nat) (hk : k ≤ 30) (hm : m.toNat = 2 ^ k - 1) : (p &&& m).toInt = p.toInt % 2 ^ k := by
  have hpow : 2 ^ k ≤ 2 ^ 30 := Nat.pow_le_pow_right (by decide) hk
  have hlt : p.toNat % 2 ^ k < 2 ^ k := Nat.mod_lt _ (Nat.two_pow_pos k)
  have hnat : (p &&& m).toNat = p.toNat % 2 ^ k := by rw [BitVec.toNat_and, hm, Nat.and_two_pow_sub_one_eq_mod]
  have hdvd : (2 : Int) ^ k ∣ ((2 ^ 32 : Nat) : Int) := by
    rw [Nat.cast_pow]
    exact pow_dvd_pow 2 (hk.trans (by decide))
  rw [BitVec.toInt_eq_toNat_of_lt (by omega), hnat, BitVec.toInt_eq_toNat_bmod, ← Int.emod_emod_of_dvd _ hdvd,
    Int.bmod_emod, Int.emod_emod_of_dvd _ hdvd]
  push_cast
  rfl

/-! ## Sine and cosine (R141 to R143, R146) -/

/-- The table of R141 holds the values of its closed form. -/
theorem sigpsin15_toInt : ∀ i < 18, (sigpsin15.getD i 0).toInt = sineTable.getD i 0 := by decide

/-- Neighbouring entries differ by at most one step of the first quadrant. -/
theorem sineTable_range : ∀ i < 17, 0 ≤ sineTable.getD i 0 ∧ sineTable.getD i 0 ≤ 32768 ∧
    -3208 ≤ sineTable.getD (i + 1) 0 - sineTable.getD i 0 ∧ sineTable.getD (i + 1) 0 - sineTable.getD i 0 ≤ 3208 := by
  decide

/-- An interpolation step stays within the step of the table (R142). -/
theorem interpolation_range (d f : Int) (h0 : -3208 ≤ d) (h1 : d ≤ 3208) (hf0 : 0 ≤ f) (hf1 : f < 256) :
    -818040 ≤ d * f ∧ d * f ≤ 818040 := by
  constructor <;> nlinarith

theorem sineFirstQuadrant_range (n : Int) (h0 : 0 ≤ n) (h1 : n ≤ 4096) :
    -4096 ≤ sineFirstQuadrant n ∧ sineFirstQuadrant n ≤ 40000 := by
  have hi : (n / 256).toNat < 17 := by omega
  have hi' : (n / 256 + 1).toNat = (n / 256).toNat + 1 := by omega
  obtain ⟨ha0, ha1, hd0, hd1⟩ := sineTable_range _ hi
  obtain ⟨hp0, hp1⟩ := interpolation_range _ (n % 256) hd0 hd1 (by omega) (by omega)
  simp only [sineFirstQuadrant, hi']
  omega

/-- SINTAB over the integers (R142). -/
theorem sintab_toInt (n : Word) (h0 : 0 ≤ n.toInt) (h1 : n.toInt ≤ 4096) :
    (sintab n).toInt = sineFirstQuadrant n.toInt := by
  have hi : (n.toInt / 256).toNat < 17 := by omega
  have hi' : (n.toInt / 256 + 1).toNat = (n.toInt / 256).toNat + 1 := by omega
  have hidx : natOf (asr n 8 &&& 0xff) = (n.toInt / 256).toNat := by
    rw [natOf, mask_toInt _ _ 8 (by decide) (by decide), asr_toInt]
    omega
  have hf : (n &&& 0xff).toInt = n.toInt % 256 := mask_toInt _ _ 8 (by decide) (by decide)
  obtain ⟨ha0, ha1, hd0, hd1⟩ := sineTable_range _ hi
  obtain ⟨hp0, hp1⟩ := interpolation_range _ (n.toInt % 256) hd0 hd1 (by omega) (by omega)
  have ha := sigpsin15_toInt _ (by omega : (n.toInt / 256).toNat < 18)
  have hb := sigpsin15_toInt _ (by omega : (n.toInt / 256).toNat + 1 < 18)
  have hsub : (sigpsin15.getD ((n.toInt / 256).toNat + 1) 0 - sigpsin15.getD (n.toInt / 256).toNat 0).toInt =
      sineTable.getD ((n.toInt / 256).toNat + 1) 0 - sineTable.getD (n.toInt / 256).toNat 0 := by
    rw [sub_toInt _ _ (by rw [ha, hb]; constructor <;> omega), ha, hb]
  simp only [sintab, sineFirstQuadrant, hidx, hi']
  have hmul := mul_toInt (sigpsin15.getD ((n.toInt / 256).toNat + 1) 0 - sigpsin15.getD (n.toInt / 256).toNat 0)
    (n &&& 0xff) (by rw [hsub, hf]; constructor <;> omega)
  rw [hsub, hf] at hmul
  rw [add_toInt _ _ (by rw [asr_toInt, hmul, ha]; constructor <;> omega), asr_toInt, hmul, ha]
  rfl

/-- The half turn of R143 over the integers. -/
def sineCosineHalf (h : Int) : Int × Int :=
  if 4095 < h then (sineFirstQuadrant (8192 - h), -sineFirstQuadrant (h - 4096))
  else (sineFirstQuadrant h, sineFirstQuadrant (4096 - h))

theorem sineCosineHalf_range (h : Int) (h0 : 0 ≤ h) (h1 : h < 8192) :
    (-40000 ≤ (sineCosineHalf h).1 ∧ (sineCosineHalf h).1 ≤ 40000) ∧
      -40000 ≤ (sineCosineHalf h).2 ∧ (sineCosineHalf h).2 ≤ 40000 := by
  unfold sineCosineHalf
  split
  · have hs := sineFirstQuadrant_range (8192 - h) (by omega) (by omega)
    have hc := sineFirstQuadrant_range (h - 4096) (by omega) (by omega)
    simp only
    omega
  · have hs := sineFirstQuadrant_range h (by omega) (by omega)
    have hc := sineFirstQuadrant_range (4096 - h) (by omega) (by omega)
    simp only
    omega

theorem sincosHalf_toInt (h : Word) (h0 : 0 ≤ h.toInt) (h1 : h.toInt < 8192) :
    (sincosHalf h).1.toInt = (sineCosineHalf h.toInt).1 ∧ (sincosHalf h).2.toInt = (sineCosineHalf h.toInt).2 := by
  have h8192 : (8192 : Word).toInt = 8192 := rfl
  have h4096 : (4096 : Word).toInt = 4096 := rfl
  unfold sincosHalf sineCosineHalf
  split
  · have hs : (8192 - h).toInt = 8192 - h.toInt := sub_toInt_of_nonneg _ _ (by decide) h0
    have hc : (h - 4096).toInt = h.toInt - 4096 := sub_toInt_of_nonneg _ _ h0 (by decide)
    obtain ⟨hr0, hr1⟩ := sineFirstQuadrant_range (h.toInt - 4096) (by omega) (by omega)
    have htab : (sintab (h - 4096)).toInt = sineFirstQuadrant (h.toInt - 4096) := by
      rw [sintab_toInt _ (by omega) (by omega), hc]
    refine ⟨?_, ?_⟩
    · rw [sintab_toInt _ (by omega) (by omega), hs]
    · rw [neg_toInt _ (by rw [htab]; constructor <;> omega), htab]
  · have hc : (4096 - h).toInt = 4096 - h.toInt := sub_toInt_of_nonneg _ _ (by decide) h0
    refine ⟨sintab_toInt _ h0 (by omega), ?_⟩
    rw [sintab_toInt _ (by omega) (by omega), hc]

/-- `sincos14` is the sine and cosine of R143 over the integers, for every angle. -/
theorem sincos14_toInt (angle : Word) :
    ((sincos14 angle).1.toInt, (sincos14 angle).2.toInt) = sineCosine angle.toInt := by
  have hn : (angle &&& 16383).toInt = angle.toInt % 16384 := mask_toInt _ _ 14 (by decide) (by decide)
  have hh : ((angle &&& 16383) &&& 8191).toInt = angle.toInt % 16384 % 8192 := by
    rw [← hn]
    exact mask_toInt _ _ 13 (by decide) (by decide)
  obtain ⟨⟨hs0, hs1⟩, hc0, hc1⟩ := sineCosineHalf_range (angle.toInt % 16384 % 8192) (by omega) (by omega)
  obtain ⟨hs, hc⟩ := sincosHalf_toInt ((angle &&& 16383) &&& 8191) (by omega) (by omega)
  rw [hh] at hs hc
  have hspec : sineCosine angle.toInt = if 8191 < angle.toInt % 16384 then
      (-(sineCosineHalf (angle.toInt % 16384 % 8192)).1, -(sineCosineHalf (angle.toInt % 16384 % 8192)).2)
      else sineCosineHalf (angle.toInt % 16384 % 8192) := rfl
  rw [hspec, sincos14, hn]
  split
  · rw [neg_toInt _ (by rw [hs]; constructor <;> omega), neg_toInt _ (by rw [hc]; constructor <;> omega), hs, hc]
  · rw [hs, hc]

/-- Degrees to angle units over the integers (R146). -/
theorem degrees_toInt (deg : Word) (h0 : -2 ^ 18 ≤ deg.toInt) (h1 : deg.toInt < 2 ^ 18) :
    (degrees deg).toInt = (deg.toInt * 8192).tdiv 180 := by
  have h8192 : (8192 : Word).toInt = 8192 := rfl
  have h180 : (180 : Word).toInt = 180 := rfl
  rw [degrees, tdiv_toInt_of_pos _ _ (by decide), mul_toInt _ _ (by rw [h8192]; constructor <;> omega), h8192, h180]

end Sys2Proof.Machine
end

section
/-! What a line of DEMODULATE reads over the integers: its samples, its window, its hue rotation and its carrier (R81, R213,
R230 to R233). -/

namespace Sys2Proof.Machine

open Sys2Proof.Claims

/-! ## The samples of a line (R81) -/

/-- A sample is an 8-bit value (R41). -/
theorem sample_range (b : Buffer) (i : Nat) : -128 ≤ (sample b i).toInt ∧ (sample b i).toInt ≤ 127 := by
  rw [sample, sext8, BitVec.toInt_signExtend_of_le (by decide)]
  have h0 := BitVec.le_toInt (b.getD i 0)
  have h1 := BitVec.toInt_lt (x := b.getD i 0)
  omega

/-- `INP` reads the field at the index over the integers (R81). -/
theorem input_eq_inputAt (e : Scan) (idx : Word) : e.input idx = inputAt e.cfg e.inp idx.toInt := by
  have hsize : (wordOf (fieldSize e.cfg)).toInt = fieldSize e.cfg :=
    wordOf_toInt _ (by have := fieldSize_cases e.cfg; omega)
  have hmod : (posmod idx (wordOf (fieldSize e.cfg))).toInt = idx.toInt % fieldSize e.cfg := by
    rw [posmod_toInt _ _ (by have := fieldSize_cases e.cfg; omega) (by have := fieldSize_cases e.cfg; omega), hsize]
  rw [Scan.input, inpAt, natOf, hmod, inputAt]

theorem input_range (e : Scan) (idx : Word) : -128 ≤ (e.input idx).toInt ∧ (e.input idx).toInt ≤ 127 :=
  sample_range e.inp _

/-- The running sum of R221 and R232 is within 128 a sample. -/
theorem sumFrom_range (e : Scan) (origin : Word) (first : Int) (n : Nat) :
    -128 * ((n : Int) + 1) ≤ sumFrom e origin first n ∧ sumFrom e origin first n ≤ 128 * ((n : Int) + 1) := by
  induction n with
  | zero =>
    have := input_range e (origin + BitVec.ofInt 32 first)
    rw [sumFrom]
    omega
  | succ n ih =>
    have := input_range e (origin + BitVec.ofInt 32 (first + (n + 1)))
    rw [sumFrom]
    omega

/-- A line has a first sample, with which the sum of R232 begins. -/
theorem avLen_eq_succ (c : Config) : avLen c = (avLen c - 1) + 1 := by
  have := avLen_cases c
  omega

/-- The sum of `n + 1` samples in a word, for a length that does not wrap (R232). -/
theorem sampleSum_toInt (e : Scan) (pos : Word) (n : Nat) (hn : n < 2 ^ 20) :
    (forRange 0 (n + 1) (0 : Word) fun i acc => acc + e.input (pos + wordOf i)).toInt = sumFrom e pos 0 n := by
  induction n with
  | zero => simp [forRange, sumFrom, wordOf]
  | succ n ih =>
    have hword : wordOf (n + 1) = BitVec.ofInt 32 (0 + ((n : Int) + 1)) := by
      rw [zero_add]
      exact (BitVec.ofInt_natCast 32 (n + 1)).symm
    have hsum := sumFrom_range e pos 0 (n + 1)
    rw [forRange_snoc _ _ _ _ (Nat.zero_le _), hword]
    rw [sumFrom] at hsum ⊢
    rw [add_toInt _ _ (by rw [ih (by omega)]; constructor <;> omega), ih (by omega)]

/-- The energy of a line over the integers (R232). -/
theorem lineEnergy_toInt (e : Scan) (pos : Word) : (lineEnergy e pos).toInt = sumFrom e pos 0 (avLen e.cfg - 1) := by
  rw [lineEnergy, avLen_eq_succ]
  exact sampleSum_toInt e pos (avLen e.cfg - 1) (by have := avLen_cases e.cfg; omega)

/-! ## The window without bloom (R233) -/

theorem avLen_toInt (c : Config) : (wordOf (avLen c)).toInt = avLen c :=
  wordOf_toInt _ (by have := avLen_cases c; omega)

theorem avLen_sub_one_toInt (c : Config) : (wordOf (avLen c) - 1).toInt = (avLen c : Int) - 1 := by
  have h := sub_toInt_of_nonneg (wordOf (avLen c)) 1 (by rw [avLen_toInt]; omega) (by decide)
  rw [avLen_toInt] at h
  exact h

/-- `scanR` over the integers (R232, R233). -/
theorem scanRight_toInt (c : Config) : (scanRight c).toInt = ((avLen c : Int) - 1) * 4096 := by
  have := avLen_cases c
  rw [scanRight, shl_toInt_of_fits _ _ (by rw [avLen_sub_one_toInt]; constructor <;> omega), avLen_sub_one_toInt]
  rfl

theorem scanWindow_scanR (e : Scan) (prevE pos : Word) : (scanWindow e prevE pos).scanR = scanRight e.cfg := by
  unfold scanWindow
  split <;> rfl

/-- The step of R233 over the integers. -/
theorem plainWindow_dx_toInt (e : Scan) (prevE : Word) (hw : 0 < e.output.outw.toInt) :
    (plainWindow e prevE).dx.toInt = ((avLen e.cfg : Int) - 1) * 4096 / e.output.outw.toInt := by
  have hr : (shl (wordOf (avLen e.cfg) - 1) 12).toInt = ((avLen e.cfg : Int) - 1) * 4096 := scanRight_toInt e.cfg
  have := avLen_cases e.cfg
  rw [plainWindow, tdiv_toInt_of_nonneg _ _ (by omega) hw, hr]

/-- Multiples of a quotient stay below the dividend (R237: the positions of a row). -/
theorem mul_ediv_lt (n w k : Int) (hn : 0 < n) (hk0 : 0 ≤ k) (hk : k < w) : 0 ≤ k * (n / w) ∧ k * (n / w) < n := by
  have hw : 0 < w := hk0.trans_lt hk
  have hq : 0 ≤ n / w := Int.ediv_nonneg hn.le hw.le
  have hle : w * (n / w) ≤ n := Int.mul_ediv_self_le hw.ne'
  refine ⟨mul_nonneg hk0 hq, ?_⟩
  rcases hq.eq_or_lt with h | h
  · rw [← h, mul_zero]
    exact hn
  · exact (Int.mul_lt_mul_of_pos_right hk h).trans_le hle

/-- The positions of a row with `DO_BLOOM = 0` do not wrap and stay left of `scanR` (R233, R237). -/
theorem plainWindow_position (e : Scan) (prevE : Word) (hw : e.output.outw.toInt ≤ 32767) (k : Nat)
    (hk : (k : Int) < e.output.outw.toInt) :
    (BitVec.ofNat 32 k * (plainWindow e prevE).dx).toInt = k * (plainWindow e prevE).dx.toInt ∧
      (BitVec.ofNat 32 k * (plainWindow e prevE).dx).toInt < (plainWindow e prevE).scanR.toInt := by
  have hdx := plainWindow_dx_toInt e prevE (by omega)
  have hr : (plainWindow e prevE).scanR.toInt = ((avLen e.cfg : Int) - 1) * 4096 := scanRight_toInt e.cfg
  have hlen := avLen_cases e.cfg
  obtain ⟨h0, h1⟩ := mul_ediv_lt (((avLen e.cfg : Int) - 1) * 4096) e.output.outw.toInt k (by omega) (by omega) hk
  rw [← hdx] at h0 h1
  have hword : (BitVec.ofNat 32 k).toInt = k := wordOf_toInt k (by omega)
  have hmul : (BitVec.ofNat 32 k * (plainWindow e prevE).dx).toInt = k * (plainWindow e prevE).dx.toInt := by
    rw [mul_toInt _ _ (by rw [hword]; constructor <;> omega), hword]
  exact ⟨hmul, by rw [hmul, hr]; exact h1⟩

/-! ## The window with bloom (R232) -/

/-- The filtered beam energy of R232 over the integers. -/
def filteredEnergy (maxE prevE energy : Int) : Int :=
  (prevE * 123).tdiv 128 + (wrap32 ((maxE / 2 - energy) * 1024)).tdiv maxE

theorem filteredEnergy_range (maxE prevE energy : Int) (hmax : 96384 ≤ maxE) (h0 : -65536 ≤ prevE)
    (h1 : prevE ≤ 65536) : -86000 ≤ filteredEnergy maxE prevE energy ∧ filteredEnergy maxE prevE energy ≤ 86000 := by
  have hlo : -2 ^ 31 ≤ wrap32 ((maxE / 2 - energy) * 1024) := Int.le_bmod (by decide)
  have hhi : wrap32 ((maxE / 2 - energy) * 1024) < 2 ^ 31 := Int.bmod_lt (by decide)
  have hnew := tdiv_range (wrap32 ((maxE / 2 - energy) * 1024)) maxE 22282 (by omega) (by omega) (by omega)
  have hold := tdiv_range (prevE * 123) 128 62976 (by decide) (by omega) (by omega)
  unfold filteredEnergy
  omega

/-- The filtered beam energy of R232: only the product by 1024 can wrap. -/
theorem beamEnergy_toInt (maxE prevE s : Word) (hmax : 96384 ≤ maxE.toInt) (h0 : -65536 ≤ prevE.toInt)
    (h1 : prevE.toInt ≤ 65536) (hs0 : -96640 ≤ s.toInt) (hs1 : s.toInt ≤ 96640) :
    (beamEnergy maxE prevE s).toInt = filteredEnergy maxE.toInt prevE.toInt s.toInt := by
  have h123 : (123 : Word).toInt = 123 := rfl
  have h128 : (128 : Word).toInt = 128 := rfl
  obtain ⟨_, hmax1⟩ := fits_toInt maxE
  have hold : (tdiv (prevE * 123) 128).toInt = (prevE.toInt * 123).tdiv 128 := by
    rw [tdiv_toInt_of_pos _ _ (by decide), mul_toInt _ _ (by rw [h123]; constructor <;> omega), h123, h128]
  have hhalf : (asr maxE 1 - s).toInt = maxE.toInt / 2 - s.toInt := by
    rw [sub_toInt _ _ (by rw [asr_toInt]; constructor <;> omega), asr_toInt]
    rfl
  have hnew : (tdiv (shl (asr maxE 1 - s) 10) maxE).toInt =
      (wrap32 ((maxE.toInt / 2 - s.toInt) * 1024)).tdiv maxE.toInt := by
    rw [tdiv_toInt_of_pos _ _ (by omega), shl_toInt, hhalf]
    rfl
  have hrange := filteredEnergy_range maxE.toInt prevE.toInt s.toInt hmax h0 h1
  rw [filteredEnergy] at hrange
  rw [beamEnergy, add_toInt _ _ (by rw [hold, hnew]; constructor <;> omega), hold, hnew, filteredEnergy]

/-- `line_w` of R232 over the integers. -/
theorem lineWidth_toInt (c : Config) (prevE : Word) (h0 : -86000 ≤ prevE.toInt) (h1 : prevE.toInt ≤ 86000) :
    (lineWidth c prevE).toInt = (avLen c : Int) * 112 / 128 + prevE.toInt / 512 := by
  have h112 : (112 : Word).toInt = 112 := rfl
  have h128 : (128 : Word).toInt = 128 := rfl
  have hlen := avLen_cases c
  have hmul : (wordOf (avLen c) * 112).toInt = (avLen c : Int) * 112 := by
    rw [mul_toInt _ _ (by rw [avLen_toInt, h112]; constructor <;> omega), avLen_toInt, h112]
  have hbase : (tdiv (wordOf (avLen c) * 112) 128).toInt = (avLen c : Int) * 112 / 128 := by
    rw [tdiv_toInt_of_nonneg _ _ (by omega) (by decide), hmul, h128]
  rw [lineWidth, add_toInt _ _ (by rw [hbase, asr_toInt]; constructor <;> omega), hbase, asr_toInt]
  rfl

/-- The step of a window `lw` samples wide (R232). -/
theorem windowStep_toInt (lw outw : Word) (h0 : 0 ≤ lw.toInt) (h1 : lw.toInt < 1024) (hw : 0 < outw.toInt) :
    (tdiv (shl lw 12) outw).toInt = lw.toInt * 4096 / outw.toInt := by
  have hshl : (shl lw 12).toInt = lw.toInt * 4096 := shl_toInt_of_fits lw 12 ⟨by omega, by omega⟩
  rw [tdiv_toInt_of_nonneg _ _ (by omega) hw, hshl]

/-- Where a window `lw` samples wide starts (R232), in samples. -/
theorem windowLeft_toInt (c : Config) (lw : Word) (h0 : 0 ≤ lw.toInt) (h1 : lw.toInt < 1024) :
    (tdiv (wordOf (avLen c)) 2 - asr lw 1 + 8).toInt = (avLen c : Int) / 2 - lw.toInt / 2 + 8 := by
  have h2 : (2 : Word).toInt = 2 := rfl
  have h8 : (8 : Word).toInt = 8 := rfl
  have hlen := avLen_cases c
  have hhalf : (tdiv (wordOf (avLen c)) 2).toInt = (avLen c : Int) / 2 := by
    rw [tdiv_toInt_of_nonneg _ _ (by rw [avLen_toInt]; omega) (by decide), avLen_toInt, h2]
  have hsub : (tdiv (wordOf (avLen c)) 2 - asr lw 1).toInt = (avLen c : Int) / 2 - lw.toInt / 2 := by
    rw [sub_toInt _ _ (by rw [hhalf, asr_toInt]; constructor <;> omega), hhalf, asr_toInt]
    rfl
  rw [add_toInt _ _ (by rw [hsub, h8]; constructor <;> omega), hsub, h8]

/-- `line_w` of R232 for the filtered energy `pe`. -/
def bloomWidth (c : Config) (pe : Int) : Int := (avLen c : Int) * 112 / 128 + pe / 512

/-- The left end of R232, in samples, for the filtered energy `pe`. -/
def bloomLeft (c : Config) (pe : Int) : Int := (avLen c : Int) / 2 - bloomWidth c pe / 2 + 8

theorem bloomWidth_range (c : Config) (pe : Int) (h0 : -86000 ≤ pe) (h1 : pe ≤ 86000) :
    0 ≤ bloomWidth c pe ∧ bloomWidth c pe < 1024 := by
  have := avLen_cases c
  unfold bloomWidth
  omega

/-! The fields of the window, read through its filtered energy. -/

theorem bloomWindow_dx (e : Scan) (prevE pos : Word) : (bloomWindow e prevE pos).dx =
    tdiv (shl (lineWidth e.cfg (bloomWindow e prevE pos).prevE) 12) e.output.outw := rfl

theorem bloomWindow_scanL (e : Scan) (prevE pos : Word) : (bloomWindow e prevE pos).scanL =
    shl (tdiv (wordOf (avLen e.cfg)) 2 - asr (lineWidth e.cfg (bloomWindow e prevE pos).prevE) 1 + 8) 12 := rfl

theorem bloomWindow_first (e : Scan) (prevE pos : Word) :
    (bloomWindow e prevE pos).first = (asr (bloomWindow e prevE pos).scanL 12).toInt := by
  simp only [bloomWindow]

theorem bloomWindow_last (e : Scan) (prevE pos : Word) : (bloomWindow e prevE pos).last = avLen e.cfg - 1 := by
  have hlast : (bloomWindow e prevE pos).last = (asr (scanRight e.cfg) 12).toInt := by simp only [bloomWindow]
  rw [hlast, asr_toInt, scanRight_toInt]
  omega

/-- The step and the window of R232 follow from the filtered energy. -/
theorem bloomWindow_of_prevE (e : Scan) (prevE pos : Word) (pe : Int) (hw : 0 < e.output.outw.toInt)
    (hpe : (bloomWindow e prevE pos).prevE.toInt = pe) (h0 : -86000 ≤ pe) (h1 : pe ≤ 86000) :
    (bloomWindow e prevE pos).dx.toInt = bloomWidth e.cfg pe * 4096 / e.output.outw.toInt ∧
      (bloomWindow e prevE pos).scanL.toInt = bloomLeft e.cfg pe * 4096 ∧
      (bloomWindow e prevE pos).first = bloomLeft e.cfg pe := by
  obtain ⟨hw0, hw1⟩ := bloomWidth_range e.cfg pe h0 h1
  have hlen := avLen_cases e.cfg
  have hwidth : (lineWidth e.cfg (bloomWindow e prevE pos).prevE).toInt = bloomWidth e.cfg pe := by
    rw [lineWidth_toInt _ _ (by omega) (by omega), hpe, bloomWidth]
  have hleft : (tdiv (wordOf (avLen e.cfg)) 2 - asr (lineWidth e.cfg (bloomWindow e prevE pos).prevE) 1 + 8).toInt =
      bloomLeft e.cfg pe := by
    rw [windowLeft_toInt _ _ (by omega) (by omega), hwidth, bloomLeft]
  have hleft_fits : Fits (bloomLeft e.cfg pe * 2 ^ 12) := by
    unfold bloomLeft
    constructor <;> omega
  have hscanL : (bloomWindow e prevE pos).scanL.toInt = bloomLeft e.cfg pe * 4096 := by
    rw [bloomWindow_scanL, shl_toInt_of_fits _ _ (by rw [hleft]; exact hleft_fits), hleft]
    rfl
  refine ⟨?_, hscanL, ?_⟩
  · rw [bloomWindow_dx, windowStep_toInt _ _ (by omega) (by omega) hw, hwidth]
  · rw [bloomWindow_first, asr_toInt, hscanL]
    omega

/-- The filtered energy a line leaves (R232). -/
theorem bloomWindow_prevE_toInt (e : Scan) (prevE pos : Word) (hmax : 96384 ≤ e.maxE.toInt)
    (h0 : -65536 ≤ prevE.toInt) (h1 : prevE.toInt ≤ 65536) : (bloomWindow e prevE pos).prevE.toInt =
      filteredEnergy e.maxE.toInt prevE.toInt (sumFrom e pos 0 (avLen e.cfg - 1)) := by
  have hlen := avLen_cases e.cfg
  have hsum := sumFrom_range e pos 0 (avLen e.cfg - 1)
  have henergy := lineEnergy_toInt e pos
  rw [← henergy]
  exact beamEnergy_toInt e.maxE prevE (lineEnergy e pos) hmax h0 h1 (by omega) (by omega)

/-! ## What the line loop starts with (R213) -/

/-- `bright` over the integers (R213). -/
theorem scanOf_bright_toInt (start : DemodInput) (s : State) (f : PixelFormat) (noise : Word) (field : Bool) :
    (scanOf start s f noise field).bright.toInt = lineBright s.monitor := by
  have h7 : blackLevel.toInt = 7 := rfl
  simp only [scanOf, lineBright, wrap32, BitVec.toInt_sub, BitVec.toInt_add, h7, Int.sub_bmod_bmod]

/-- The hue angle of R213 over the integers. -/
theorem hueAngle_toInt (hue : Word) :
    (degrees (tmod hue 360 + 33)).toInt = ((hue.toInt.tmod 360 + 33) * 8192).tdiv 180 := by
  have h33 : (33 : Word).toInt = 33 := rfl
  have hmod : (tmod hue 360).toInt = hue.toInt.tmod 360 := tmod_toInt hue 360
  have hlo := Int.lt_tmod_of_pos hue.toInt (by decide : (0 : Int) < 360)
  have hhi := Int.tmod_lt_of_pos hue.toInt (by decide : (0 : Int) < 360)
  have hsum : (tmod hue 360 + 33).toInt = hue.toInt.tmod 360 + 33 := by
    rw [add_toInt _ _ (by rw [hmod, h33]; constructor <;> omega), hmod, h33]
  rw [degrees_toInt _ (by omega) (by omega), hsum]

/-- `huesn` and `huecs` over the integers (R213). -/
theorem scanOf_hue_toInt (start : DemodInput) (s : State) (f : PixelFormat) (noise : Word) (field : Bool) :
    ((scanOf start s f noise field).huesn.toInt, (scanOf start s f noise field).huecs.toInt) = hueSines s.monitor := by
  have h := sincos14_toInt (degrees (tmod s.monitor.hue 360 + 33))
  rw [hueAngle_toInt] at h
  simp only [scanOf, hueRotation, asr_toInt, hueSines, ← h]

/-! ## The carrier (R230, R231) -/

/-- A row written out, read by bucket number. -/
theorem rowAt_mk (a b c d : Word) (k : Nat) : rowAt #v[a, b, c, d] k = [a, b, c, d].getD (k % 4) 0 := by
  have hk : k % 4 = 0 ∨ k % 4 = 1 ∨ k % 4 = 2 ∨ k % 4 = 3 := by omega
  rcases hk with h | h | h | h <;> simp [rowAt, h]

/-- The carrier over the integers (R230, R231). -/
theorem carrier_toInt (e : Scan) (ccr : BurstRow) (align k : Nat) : (rowAt (carrier e ccr align) k).toInt =
    waveOf e.cfg e.monitor.saturation.toInt (e.huesn.toInt, e.huecs.toInt) ccr align k := by
  have hk : k % 4 = 0 ∨ k % 4 = 1 ∨ k % 4 = 2 ∨ k % 4 = 3 := by omega
  rw [carrier, rowAt_mk, waveOf]
  rcases hk with h | h | h | h <;>
    simp only [h, List.getD_cons_zero, List.getD_cons_succ, dci, dcq, wrap32, asr_toInt, BitVec.toInt_neg,
      BitVec.toInt_mul, BitVec.toInt_add, BitVec.toInt_sub, Int.bmod_sub_bmod, Int.sub_bmod_bmod, Int.bmod_add_bmod,
      Int.add_bmod_bmod]

end Sys2Proof.Machine
end

section
/-! One line of DEMODULATE over the integers: its place, its samples, and what it leaves (R219 to R242). -/

namespace Sys2Proof.Machine

open Sys2Proof.Claims

/-! ## The place of a line (R220, R225, R226) -/

/-- A seed after the horizontal search is in range when the seed before it was (R223, R224). -/
theorem hsyncAfter_range (c : Config) (hsync : Word) (hit : Option Int) (h0 : 0 ≤ hsync.toInt)
    (h1 : hsync.toInt < hres c) : 0 ≤ (hsyncAfter c hsync hit).toInt ∧ (hsyncAfter c hsync hit).toInt < hres c := by
  have hsize := hres_cases c
  have hword : (wordOf (hres c)).toInt = hres c := wordOf_toInt _ (by omega)
  have hmod (a : Word) : 0 ≤ (posmod a (wordOf (hres c))).toInt ∧
      (posmod a (wordOf (hres c))).toInt < hres c := by
    have hlo := posmod_nonneg a (wordOf (hres c)) (by omega) (by omega)
    have hhi := posmod_lt a (wordOf (hres c)) (by omega) (by omega)
    exact ⟨hlo, by omega⟩
  unfold hsyncAfter
  split
  · split
    · exact hmod _
    · split
      · exact hmod _
      · exact ⟨h0, h1⟩
  · have hzero : (0 : Word).toInt = 0 := rfl
    omega

/-- `xpos` over the integers (R225). -/
theorem xpos_toInt (c : Config) (hsync : Word) (h0 : 0 ≤ hsync.toInt) (h1 : hsync.toInt < hres c) :
    (xpos c hsync).toInt = ((avBeg c : Int) + hsync.toInt - 3) % hres c := by
  have hlen := hres_cases c
  have hav : avBeg c ≤ 1000 := by
    rw [avBeg, ns2pos, lineNs]
    rcases hlen with h | h <;> rw [h] <;> decide
  have hword : (wordOf (hres c)).toInt = hres c := wordOf_toInt _ (by omega)
  have hbeg : (wordOf (avBeg c)).toInt = avBeg c := wordOf_toInt _ (by omega)
  have h3 : (3 : Word).toInt = 3 := rfl
  have hsum : (wordOf (avBeg c) + hsync).toInt = (avBeg c : Int) + hsync.toInt := by
    rw [add_toInt _ _ (by rw [hbeg]; constructor <;> omega), hbeg]
  have hsub : (wordOf (avBeg c) + hsync - 3).toInt = (avBeg c : Int) + hsync.toInt - 3 := by
    rw [sub_toInt _ _ (by rw [hsum, h3]; constructor <;> omega), hsum, h3]
  rw [xpos, posmod_toInt _ _ (by omega) (by omega), hword, hsub]

/-- `ypos` over the integers (R225). -/
theorem ypos_toInt (e : Scan) (line : Nat) (hline : line < 262) (h0 : 0 ≤ e.vsync.toInt) (h1 : e.vsync.toInt < 262) :
    (ypos e line).toInt = (line + e.vsync.toInt + 3) % 262 := by
  have hv : (wordOf vres).toInt = 262 := rfl
  have h3 : (3 : Word).toInt = 3 := rfl
  have hl : (wordOf line).toInt = line := wordOf_toInt _ (by omega)
  have hsum : (wordOf line + e.vsync).toInt = line + e.vsync.toInt := by
    rw [add_toInt _ _ (by rw [hl]; constructor <;> omega), hl]
  have hsum3 : (wordOf line + e.vsync + 3).toInt = line + e.vsync.toInt + 3 := by
    rw [add_toInt _ _ (by rw [hsum, h3]; constructor <;> omega), hsum, h3]
  rw [ypos, posmod_toInt _ _ (by decide) (by decide), hv, hsum3]

/-- `pos` lies in the field (R225). -/
theorem pictureStart_range (c : Config) (vsync hsync : Int) (line : Nat) :
    0 ≤ pictureStart c vsync hsync line ∧ pictureStart c vsync hsync line < 262 * hres c := by
  have hlen := hres_cases c
  unfold pictureStart
  rcases hlen with h | h <;> rw [h] <;> omega

/-- `pos` over the integers (R225). -/
theorem picturePos_toInt (e : Scan) (line : Nat) (hsync : Word) (hline : line < 262) (hv0 : 0 ≤ e.vsync.toInt)
    (hv1 : e.vsync.toInt < 262) (h0 : 0 ≤ hsync.toInt) (h1 : hsync.toInt < hres e.cfg) :
    (picturePos e line hsync).toInt = pictureStart e.cfg e.vsync.toInt hsync.toInt line := by
  have hlen := hres_cases e.cfg
  have hword : (wordOf (hres e.cfg)).toInt = hres e.cfg := wordOf_toInt _ (by omega)
  have hx := xpos_toInt e.cfg hsync h0 h1
  have hy := ypos_toInt e line hline hv0 hv1
  have hrow : (ypos e line * wordOf (hres e.cfg)).toInt = (line + e.vsync.toInt + 3) % 262 * hres e.cfg := by
    rw [mul_toInt _ _ (by rw [hy, hword]; constructor <;> rcases hlen with h | h <;> rw [h] <;> omega), hy, hword]
  have hrange := pictureStart_range e.cfg e.vsync.toInt hsync.toInt line
  rw [pictureStart] at hrange ⊢
  rw [picturePos, add_toInt _ _ (by rw [hx, hrow]; constructor <;> omega), hx, hrow]

/-- The row of `ccf` a line uses (R226). -/
theorem burstBucket_eq (e : Scan) (line : Nat) (hline : line < 262) (h0 : 0 ≤ e.vsync.toInt) (h1 : e.vsync.toInt < 262) :
    burstBucket e line = ((line + e.vsync.toInt + 3) % 262).toNat % ccVper e.cfg := by
  rw [burstBucket, natOf, ypos_toInt e line hline h0 h1]

theorem burstBucket_lt (e : Scan) (line : Nat) : burstBucket e line < ccVper e.cfg :=
  Nat.mod_lt _ (by unfold ccVper; split <;> decide)

/-- `align` over the integers (R230). -/
theorem align_eq (hsync : Word) : align hsync = (hsync.toInt % 4).toNat := by
  rw [align, natOf, posmod_toInt _ _ (by decide) (by decide)]
  rfl

/-- A boundary of R220's bands over the integers, before the cut to `outh`. -/
theorem bandEdge_toInt (e : Scan) (k : Nat) (hk : k ≤ 240) (hr0 : 0 ≤ e.output.outh.toInt)
    (hr1 : e.output.outh.toInt ≤ 32767) (hf0 : 0 ≤ e.fieldOff.toInt) (hf1 : e.fieldOff.toInt ≤ 32767) :
    (tdiv (wordOf k * e.output.outh) (wordOf activeLines) + e.fieldOff).toInt =
      (k : Int) * e.output.outh.toInt / 240 + e.fieldOff.toInt := by
  have hw : (wordOf k).toInt = k := wordOf_toInt k (by omega)
  have h240 : (wordOf activeLines).toInt = 240 := rfl
  have hp0 : 0 ≤ (k : Int) * e.output.outh.toInt := mul_nonneg (by omega) hr0
  have hp1 : (k : Int) * e.output.outh.toInt ≤ 240 * 32767 := mul_le_mul (by omega) hr1 hr0 (by decide)
  have hmul : (wordOf k * e.output.outh).toInt = (k : Int) * e.output.outh.toInt := by
    rw [mul_toInt _ _ (by rw [hw]; constructor <;> omega), hw]
  have hdiv : (tdiv (wordOf k * e.output.outh) (wordOf activeLines)).toInt = (k : Int) * e.output.outh.toInt / 240 := by
    rw [tdiv_toInt_of_nonneg _ _ (by omega) (by decide), hmul, h240]
  rw [add_toInt _ _ (by rw [hdiv]; constructor <;> omega), hdiv]

/-- The first row of a line's band over the integers (R220). -/
theorem bandBegin_toInt (e : Scan) (line : Nat) (hl0 : 21 ≤ line) (hl1 : line < 261) (hr0 : 0 ≤ e.output.outh.toInt)
    (hr1 : e.output.outh.toInt ≤ 32767) (hf0 : 0 ≤ e.fieldOff.toInt) (hf1 : e.fieldOff.toInt ≤ 32767) :
    (bandBegin e line).toInt = ((line : Int) - 21) * e.output.outh.toInt / 240 + e.fieldOff.toInt := by
  have hcast : ((line - topLine : Nat) : Int) = (line : Int) - 21 := Int.ofNat_sub hl0
  rw [bandBegin, bandEdge_toInt e _ (by unfold topLine; omega) hr0 hr1 hf0 hf1, hcast]

/-- The end of a line's band over the integers (R220). -/
theorem bandEnd_toInt (e : Scan) (line : Nat) (hl0 : 21 ≤ line) (hl1 : line < 261) (hr0 : 0 ≤ e.output.outh.toInt)
    (hr1 : e.output.outh.toInt ≤ 32767) (hf0 : 0 ≤ e.fieldOff.toInt) (hf1 : e.fieldOff.toInt ≤ 32767) :
    (bandEnd e line).toInt =
      min (((line : Int) - 20) * e.output.outh.toInt / 240 + e.fieldOff.toInt) e.output.outh.toInt := by
  have hcast : ((line - topLine + 1 : Nat) : Int) = (line : Int) - 20 := by unfold topLine; omega
  rw [bandEnd, smin_toInt, bandEdge_toInt e _ (by unfold topLine; omega) hr0 hr1 hf0 hf1, hcast]

/-! ## The samples of a line (R234 to R236) -/

/-- A tap of the carrier at an index that is not negative (R236). -/
theorem waveTap_natCast (e : Scan) (line : Nat) (wave : BurstRow) (i tap : Nat) :
    waveTap e line wave (i : Int) tap = rowAt wave (i + tap) := by
  have hmod : Int.tmod ((i : Int) + tap) 4 = ((i + tap) % 4 : Nat) := by
    rw [Int.tmod_eq_emod_of_nonneg (by omega)]
    omega
  simp only [waveTap, hmod, Int.natCast_nonneg, if_true, Int.toNat_natCast, rowAt, Nat.mod_mod]

theorem putLine_natCast (lb : Array Yiq) (i : Nat) (v : Yiq) : putLine lb (i : Int) v = lb.setIfInBounds i v := by
  simp [putLine]

/-- A line-buffer entry after a write (R235). -/
theorem getD_setIfInBounds (lb : Array Yiq) (i j : Nat) (v d : Yiq) (hi : i < lb.size) :
    (lb.setIfInBounds i v).getD j d = if j = i then v else lb.getD j d := by
  simp only [Array.getD_eq_getD_getElem?, Array.getElem?_setIfInBounds]
  by_cases h : i = j
  · subst h
    simp [hi]
  · simp [h, Ne.symm h]

/-- What step 4f reads of a line: `l` is the signal of the samples before `last`, the brightness and the carrier. -/
structure ReadsSignal (e : Scan) (wave : BurstRow) (pos : Word) (l : LineSignal) (last : Int) : Prop where
  signal : ∀ i : Nat, (i : Int) < last → (e.input (pos + BitVec.ofInt 32 i)).toInt = l.signal i
  bright : e.bright.toInt = l.bright
  wave : ∀ k, (rowAt wave k).toInt = l.wave k

/-- The luma input of R236 as a word. -/
theorem lumaInput_eq (l : LineSignal) (first n : Nat) (smp bright : Word) (hs : smp.toInt = l.signal (first + n))
    (hb : bright.toInt = l.bright) : smp + bright = lumaInput l first n := by
  rw [lumaInput, ← hs, ← hb, BitVec.ofInt_add, BitVec.ofInt_toInt, BitVec.ofInt_toInt]

/-- A chroma input of R236 as a word. -/
theorem chromaInput_eq (l : LineSignal) (tap first n : Nat) (smp wave : Word)
    (hs : smp.toInt = l.signal (first + n)) (hw : wave.toInt = l.wave (first + n + tap)) :
    asr (smp * wave) 9 = chromaInput l tap first n := by
  rw [chromaInput, asr_eq_ofInt, BitVec.toInt_mul, hs, hw]
  rfl

/-- One sample feeds the three equalizers and leaves their scaled outputs in its entry (R236). -/
theorem demodSample_eq (e : Scan) (line : Nat) (wave : BurstRow) (pos : Word) (l : LineSignal) (last : Int)
    (h : ReadsSignal e wave pos l last) (q : Equalizers) (first n : Nat) (hn : ((first + n : Nat) : Int) < last)
    (lb : Array Yiq) :
    demodSample e line wave pos ((first + n : Nat) : Int) (equalizersFed l q first n, lb) =
      (equalizersFed l q first (n + 1), lb.setIfInBounds (first + n) (decodedEntry l q first n)) := by
  have hs := h.signal (first + n) hn
  have hy := lumaInput_eq l first n _ _ hs h.bright
  have hi := chromaInput_eq l 0 first n _ _ hs (h.wave (first + n + 0))
  have hq := chromaInput_eq l 3 first n _ _ hs (h.wave (first + n + 3))
  simp only [demodSample, waveTap_natCast, hy, hi, hq, putLine_natCast, shl_eq_ofInt, asr_eq_ofInt]
  rfl

/-- The line buffer after the samples `first .. first + n - 1` (R235, R236). -/
def FilledLine (l : LineSignal) (q : Equalizers) (first n : Nat) (old new : Array Yiq) : Prop :=
  new.size = old.size ∧ ∀ i : Nat, new.getD i { y := 0, i := 0, q := 0 } =
    if first ≤ i ∧ i < first + n then decodedEntry l q first (i - first) else old.getD i { y := 0, i := 0, q := 0 }

theorem filledLine_zero (l : LineSignal) (q : Equalizers) (first : Nat) (old : Array Yiq) :
    FilledLine l q first 0 old old :=
  ⟨rfl, fun i => by rw [if_neg (by omega)]⟩

/-- The next entry (R236). -/
theorem filledLine_succ (l : LineSignal) (q : Equalizers) (first n : Nat) (old new : Array Yiq)
    (h : FilledLine l q first n old new) (hn : first + n < old.size) :
    FilledLine l q first (n + 1) old (new.setIfInBounds (first + n) (decodedEntry l q first n)) := by
  obtain ⟨hsize, hentry⟩ := h
  refine ⟨by rw [Array.size_setIfInBounds, hsize], fun i => ?_⟩
  rw [getD_setIfInBounds _ _ _ _ _ (by omega), hentry i]
  by_cases hi : i = first + n
  · rw [if_pos hi, if_pos (by omega), hi, Nat.add_sub_cancel_left]
  · rw [if_neg hi]
    congr 1
    exact propext (by omega)

/-- The samples of a window feed the equalizers from EQ_RESET and fill the line buffer (R234 to R236). -/
theorem demodSamples_eq (e : Scan) (line : Nat) (wave : BurstRow) (pos : Word) (l : LineSignal) (w : Window)
    (h : ReadsSignal e wave pos l w.last) (h0 : 0 ≤ w.first) (q : Equalizers) (lb : Array Yiq)
    (hlb : w.last ≤ lb.size) :
    (demodSamples e line wave pos w (q, lb)).1 = equalizersFed l q w.first.toNat (w.last - w.first).toNat ∧
      FilledLine l q w.first.toNat (w.last - w.first).toNat lb (demodSamples e line wave pos w (q, lb)).2 := by
  have hfirst (k : Nat) : w.first + (k : Int) = ((w.first.toNat + k : Nat) : Int) := by omega
  refine loop_rule _ (fun k (x : Equalizers × Array Yiq) => x.1 = equalizersFed l q w.first.toNat k ∧
    FilledLine l q w.first.toNat k lb x.2) _ _ _ ⟨rfl, filledLine_zero l q _ lb⟩ fun k x hk hx => ?_
  obtain ⟨heqs, hfill⟩ := hx
  have hx : x = (equalizersFed l q w.first.toNat k, x.2) := by rw [← heqs]
  simp only [zero_add]
  rw [hx, hfirst, demodSample_eq e line wave pos l w.last h q _ k (by omega)]
  exact ⟨rfl, filledLine_succ l q _ k lb x.2 hfill (by omega)⟩

/-! ## One line (R219 to R242) -/

/-- A line whose band begins past the output is skipped whole (R220). -/
theorem demodLine_skipped (e : Scan) (line : Nat) (c : LineCarry)
    (h : e.output.outh.toInt ≤ (bandBegin e line).toInt) : demodLine e line c = c :=
  if_pos h

theorem demodLine_not_skipped (e : Scan) (line : Nat) (c : LineCarry)
    (h : (bandBegin e line).toInt < e.output.outh.toInt) : demodLine e line c = demodLineBody e line c :=
  if_neg (by omega)

/-! What the body of a line leaves, each field through the others. -/

theorem demodLineBody_hsync (e : Scan) (line : Nat) (c : LineCarry) :
    (demodLineBody e line c).hsync = hsyncAfter e.cfg c.hsync (hsyncHit e line c.hsync) := rfl

/-- The row of `ccf` after the burst of a line (R229). -/
def burstRow (e : Scan) (line : Nat) (c : LineCarry) : BurstRow :=
  integrateBurst e (burstBase e line (demodLineBody e line c).hsync) (c.ccf.getD (burstBucket e line) zeroRow)

/-- The window of a line (R232, R233). -/
def lineWindow (e : Scan) (line : Nat) (c : LineCarry) : Window :=
  scanWindow e c.prevE (picturePos e line (demodLineBody e line c).hsync)

/-- Step 4f of a line (R234 to R236). -/
def lineSamples (e : Scan) (line : Nat) (c : LineCarry) : Equalizers × Array Yiq :=
  demodSamples e line (carrier e (burstRow e line c) (align (demodLineBody e line c).hsync))
    (picturePos e line (demodLineBody e line c).hsync) (lineWindow e line c) (c.eqs, c.lb)

theorem demodLineBody_ccf (e : Scan) (line : Nat) (c : LineCarry) :
    (demodLineBody e line c).ccf = c.ccf.set (burstBucket e line) (burstRow e line c) := rfl

theorem demodLineBody_prevE (e : Scan) (line : Nat) (c : LineCarry) :
    (demodLineBody e line c).prevE = (lineWindow e line c).prevE := rfl

theorem demodLineBody_eqs (e : Scan) (line : Nat) (c : LineCarry) :
    (demodLineBody e line c).eqs = (lineSamples e line c).1 := rfl

theorem demodLineBody_lb (e : Scan) (line : Nat) (c : LineCarry) :
    (demodLineBody e line c).lb = (lineSamples e line c).2 := rfl

theorem demodLineBody_mem (e : Scan) (line : Nat) (c : LineCarry) :
    (demodLineBody e line c).mem = duplicateRows e (natOf (bandBegin e line)) (natOf (bandEnd e line))
      (resample e line (demodLineBody e line c).lb (lineWindow e line c) (natOf e.output.outw) 0
        (lineWindow e line c).scanL (rowAddr e (natOf (bandBegin e line))) c.mem) := rfl

/-- No window reaches past the last sample of the line (R232, R233). -/
theorem scanWindow_last_le (e : Scan) (prevE pos : Word) : (scanWindow e prevE pos).last ≤ avLen e.cfg := by
  unfold scanWindow
  split
  · rw [bloomWindow_last]
    omega
  · exact le_refl _

/-- The signal a line decodes, from the seed and the row of `ccf` that `t` holds (R225, R230, R231). -/
def signalAfter (e : Scan) (line : Nat) (t : LineCarry) : LineSignal :=
  lineSignal e.cfg e.inp e.vsync.toInt e.bright.toInt e.monitor.saturation.toInt (e.huesn.toInt, e.huecs.toInt)
    t.hsync.toInt (t.ccf.getD (((line + e.vsync.toInt + 3) % 262).toNat % ccVper e.cfg) zeroRow) line

/-- The window at the `pos` of the seed that `t` holds (R225, R232, R233). -/
def windowAfter (e : Scan) (line : Nat) (prevE : Word) (t : LineCarry) : Window :=
  scanWindow e prevE (BitVec.ofInt 32 (pictureStart e.cfg e.vsync.toInt t.hsync.toInt line))

/-- An active line with the seeds, the rows of `ccf` and the line buffer in their ranges (R43, R44, R219, R235). -/
structure LineSound (e : Scan) (line : Nat) (c : LineCarry) : Prop where
  active : 21 ≤ line ∧ line < 261
  vsync : 0 ≤ e.vsync.toInt ∧ e.vsync.toInt < 262
  hsync : 0 ≤ c.hsync.toInt ∧ c.hsync.toInt < hres e.cfg
  ccfRows : c.ccf.length = ccVper e.cfg
  lbSize : c.lb.size = avLen e.cfg + 1

section
variable {e : Scan} {line : Nat} {c : LineCarry} (h : LineSound e line c)
include h

theorem LineSound.line_lt : line < 262 := by
  obtain ⟨_, hl⟩ := h.active
  omega

/-- The seed a line leaves is in range (R44). -/
theorem LineSound.hsync_after :
    0 ≤ (demodLineBody e line c).hsync.toInt ∧ (demodLineBody e line c).hsync.toInt < hres e.cfg :=
  hsyncAfter_range e.cfg c.hsync _ h.hsync.1 h.hsync.2

/-- The `pos` of a line, from the seed it leaves (R225). -/
theorem LineSound.picturePos_toInt : (picturePos e line (demodLineBody e line c).hsync).toInt =
    pictureStart e.cfg e.vsync.toInt (demodLineBody e line c).hsync.toInt line :=
  Machine.picturePos_toInt e line _ h.line_lt h.vsync.1 h.vsync.2 h.hsync_after.1 h.hsync_after.2

theorem LineSound.lineWindow_eq : lineWindow e line c = windowAfter e line c.prevE (demodLineBody e line c) := by
  rw [lineWindow, eq_ofInt_of_toInt _ _ h.picturePos_toInt, windowAfter]

/-- The row of `ccf` a line's carrier comes from stands in `ccf` after the line (R226, R230). -/
theorem LineSound.burstRow_eq : burstRow e line c =
    (demodLineBody e line c).ccf.getD (((line + e.vsync.toInt + 3) % 262).toNat % ccVper e.cfg) zeroRow := by
  rw [← burstBucket_eq e line h.line_lt h.vsync.1 h.vsync.2, demodLineBody_ccf, List.getD_eq_getElem?_getD,
    List.getElem?_set_self (h.ccfRows ▸ burstBucket_lt e line)]
  rfl

/-- What step 4f reads of a line is the signal of R225, R230 and R231. -/
theorem LineSound.readsSignal (last : Int) (hlast : last ≤ avLen e.cfg) :
    ReadsSignal e (carrier e (burstRow e line c) (align (demodLineBody e line c).hsync))
      (picturePos e line (demodLineBody e line c).hsync) (signalAfter e line (demodLineBody e line c)) last where
  signal i hi := by
    have hlen := avLen_cases e.cfg
    have hsize := hres_cases e.cfg
    have hpos := h.picturePos_toInt
    obtain ⟨hp0, hp1⟩ := pictureStart_range e.cfg e.vsync.toInt (demodLineBody e line c).hsync.toInt line
    have hi' : (BitVec.ofInt 32 (i : Int)).toInt = i := ofInt_toInt_of_fits _ ⟨by omega, by omega⟩
    rw [input_eq_inputAt, add_toInt _ _ (by rw [hpos, hi']; constructor <;> omega), hpos, hi']
    rfl
  bright := rfl
  wave k := by
    rw [carrier_toInt, align_eq, h.burstRow_eq]
    rfl

/-- The equalizers and the line buffer after a line whose window starts inside it (R234 to R236). -/
theorem LineSound.samples (h0 : 0 ≤ (lineWindow e line c).first) :
    (demodLineBody e line c).eqs = equalizersFed (signalAfter e line (demodLineBody e line c)) c.eqs
        (lineWindow e line c).first.toNat ((lineWindow e line c).last - (lineWindow e line c).first).toNat ∧
      FilledLine (signalAfter e line (demodLineBody e line c)) c.eqs (lineWindow e line c).first.toNat
        ((lineWindow e line c).last - (lineWindow e line c).first).toNat c.lb (demodLineBody e line c).lb := by
  have hlast : (lineWindow e line c).last ≤ avLen e.cfg := scanWindow_last_le e _ _
  have hsize := h.lbSize
  rw [demodLineBody_eqs, demodLineBody_lb, lineSamples]
  exact demodSamples_eq e line _ _ _ _ (h.readsSignal _ hlast) h0 c.eqs c.lb (by omega)

end

end Sys2Proof.Machine
end

section
/-! O49: a line is decoded through its window (R213 to R236). -/

namespace Sys2Proof.Machine

open Sys2Proof.Claims

/-! ## What O49 says, part by part -/

/-- With `DO_BLOOM = 0` the window is that of R233, and the positions of a row stay left of `scanR` (R237). -/
theorem scanWindow_plain (e : Scan) (prevE pos : Word) (hw0 : 1 ≤ e.output.outw.toInt)
    (hw1 : e.output.outw.toInt ≤ 32767) (hbloom : e.cfg.doBloom = false) :
    let w := scanWindow e prevE pos
    w.prevE = prevE ∧ w.scanL = 0 ∧ w.dx.toInt = ((avLen e.cfg : Int) - 1) * 4096 / e.output.outw.toInt ∧
      w.first = 0 ∧ w.last = avLen e.cfg ∧
      ∀ k : Nat, (k : Int) < e.output.outw.toInt →
        (BitVec.ofNat 32 k * w.dx).toInt = k * w.dx.toInt ∧ (BitVec.ofNat 32 k * w.dx).toInt < w.scanR.toInt := by
  have hplain : scanWindow e prevE pos = plainWindow e prevE := by rw [scanWindow, hbloom]; rfl
  rw [hplain]
  exact ⟨rfl, rfl, plainWindow_dx_toInt e prevE hw0, rfl, rfl, fun k hk => plainWindow_position e prevE hw1 k hk⟩

/-- With `DO_BLOOM = 1` the window is that of R232 over the integers. -/
theorem scanWindow_bloom (e : Scan) (prevE pos : Word) (hw0 : 1 ≤ e.output.outw.toInt)
    (hbloom : e.cfg.doBloom = true) (hmax : 96384 ≤ e.maxE.toInt) (h0 : -65536 ≤ prevE.toInt)
    (h1 : prevE.toInt ≤ 65536) :
    let w := scanWindow e prevE pos
    let pe := filteredEnergy e.maxE.toInt prevE.toInt (sumFrom e pos 0 (avLen e.cfg - 1))
    w.prevE.toInt = pe ∧ w.dx.toInt = bloomWidth e.cfg pe * 4096 / e.output.outw.toInt ∧
      w.scanL.toInt = bloomLeft e.cfg pe * 4096 ∧ w.first = bloomLeft e.cfg pe ∧ w.last = avLen e.cfg - 1 := by
  intro w pe
  have hpe : (bloomWindow e prevE pos).prevE.toInt = pe := bloomWindow_prevE_toInt e prevE pos hmax h0 h1
  obtain ⟨hpe0, hpe1⟩ := filteredEnergy_range e.maxE.toInt prevE.toInt (sumFrom e pos 0 (avLen e.cfg - 1)) hmax h0 h1
  obtain ⟨hdx, hscanL, hfirst⟩ := bloomWindow_of_prevE e prevE pos pe hw0 hpe hpe0 hpe1
  have hw : w = bloomWindow e prevE pos := if_pos hbloom
  rw [hw]
  exact ⟨hpe, hdx, hscanL, hfirst, bloomWindow_last e prevE pos⟩

/-- The entries of a filled line in terms of the window's ends (R235, R236). -/
theorem filledLine_window (l : LineSignal) (q : Equalizers) (first last : Int) (old new : Array Yiq) (h0 : 0 ≤ first)
    (h : FilledLine l q first.toNat (last - first).toNat old new) (i : Nat) :
    new.getD i { y := 0, i := 0, q := 0 } =
      if first ≤ i ∧ i < last then decodedEntry l q first.toNat (i - first.toNat)
      else old.getD i { y := 0, i := 0, q := 0 } := by
  rw [h.2 i]
  congr 1
  exact propext (by omega)

/-- Settles O49: the window, the start of the line loop, the carrier, and a whole line. -/
theorem lineIsDecodedThroughItsWindow : Obligations.LineIsDecodedThroughItsWindow := by
  refine ⟨fun e prevE pos hw0 hw1 => ⟨?_, ?_, ?_⟩, ?_, carrier_toInt, ?_⟩
  · rw [scanWindow_scanR, scanRight_toInt]
  · exact scanWindow_plain e prevE pos hw0 hw1
  · exact scanWindow_bloom e prevE pos hw0
  · intro start s f noise field
    exact ⟨scanOf_bright_toInt start s f noise field, scanOf_hue_toInt start s f noise field, rfl, rfl, rfl⟩
  · intro e line c hl0 hl1 hv0 hv1 hs0 hs1 hccf hlb hr0 hr1 hf0 hf1
    have hsound : LineSound e line c := ⟨⟨hl0, hl1⟩, ⟨hv0, hv1⟩, ⟨hs0, hs1⟩, hccf, hlb⟩
    have hbegin := bandBegin_toInt e line hl0 hl1 (by omega) hr1 hf0 hf1
    have hend := bandEnd_toInt e line hl0 hl1 (by omega) hr1 hf0 hf1
    refine ⟨fun hskip => demodLine_skipped e line c (by omega), fun hrow => ?_⟩
    rw [demodLine_not_skipped e line c (by omega)]
    refine ⟨?_, ?_, fun h0 => ?_⟩
    · rw [demodLineBody_prevE, hsound.lineWindow_eq, windowAfter]
    · rw [demodLineBody_mem, hsound.lineWindow_eq, natOf, natOf, natOf, hbegin, hend, windowAfter]
    · have hsamples := hsound.samples (by rw [hsound.lineWindow_eq]; exact h0)
      rw [hsound.lineWindow_eq] at hsamples
      obtain ⟨heqs, hline⟩ := hsamples
      exact ⟨heqs, hline.1.trans hlb, filledLine_window _ _ _ _ _ _ h0 hline⟩

end Sys2Proof.Machine
end

section
/-! What a command can do, said once, and the reset state (R40 to R62, R115, R283). -/

namespace Sys2Proof.Machine

/-! ## The reset state (R62) -/

theorem sample_zeroBuffer (c : Config) (i : Nat) : sample (zeroBuffer c) i = 0 := by
  have h : (zeroBuffer c).getD i 0 = 0 := by
    simp only [zeroBuffer, Array.getD_eq_getD_getElem?, Array.getElem?_replicate]
    split <;> rfl
  rw [sample, h]
  rfl

theorem ccfAt_zeroCcf (c : Config) (v k : Nat) : ccfAt (zeroCcf c) v k = 0 := by
  have h : (zeroCcf c).getD v zeroRow = zeroRow := by
    simp only [zeroCcf, List.getD_eq_getElem?_getD, List.getElem?_replicate]
    split <;> rfl
  simp only [ccfAt, h]
  exact Vector.getElem_replicate _

/-- Settles O1: the buffers read zero everywhere, and every register is zero as defined. -/
theorem resetStateIsAllZero : Obligations.ResetStateIsAllZero :=
  ⟨sample_zeroBuffer _, sample_zeroBuffer _, ccfAt_zeroCcf _, rfl, rfl, rfl, rfl, rfl, rfl, rfl, rfl, rfl, rfl, rfl, rfl,
    rfl, rfl⟩

/-- The reset input goes before everything (R300). -/
theorem step_of_resetInput (s : State) (h : s.resetInput = true) : step s = .next (powerOnReset s) := by
  simp [step, accept, h]

/-- Settles O2: the step is power-on reset, whose registers are zero as defined. -/
theorem powerOnResetZeroesTheBlock : Obligations.PowerOnResetZeroesTheBlock := fun s h =>
  ⟨powerOnReset s, step_of_resetInput s h, sample_zeroBuffer _, sample_zeroBuffer _, ccfAt_zeroCcf _, rfl, rfl, rfl, rfl,
    rfl, rfl, rfl, rfl, rfl, rfl, rfl, rfl, rfl, rfl, rfl⟩

/-! ## What a command can do (R115, R283) -/

/-- What command `i` does to the state before it answers, where it raises no fault: one constructor for each state
change, with what the entry checks have established. -/
inductive Effect (s : State) : Instr → State → Prop
  | init (w h f b : Word) (hd : descriptorOk w h f b = true) : Effect s (.init w h f b) (initCrt w h f b s)
  | resize (w h f b : Word) (hi : s.initialized = true) (hd : descriptorOk w h f b = true) :
      Effect s (.resize w h f b) (setOutput w h f b s)
  | reset (hi : s.initialized = true) : Effect s .reset (resetMonitor s)
  /-- MODULATE of an unrecognized source format (R184). -/
  | modulateUnsupported (hi : s.initialized = true) (hf : pixelFormat? s.settings.format = none) :
      Effect s .modulate (initIirs s)
  | modulate (f : PixelFormat) (hi : s.initialized = true) (hf : pixelFormat? s.settings.format = some f)
      (hc : modulateCheck s f.bytes = none) : Effect s .modulate (modulateField f (initIirs s))
  /-- DEMODULATE to an unrecognized output format (R211). -/
  | demodulateUnsupported (noise : Word) (hi : s.initialized = true) (hn : 0 ≤ noise.toInt)
      (hf : pixelFormat? s.output.format = none) : Effect s (.demodulate noise) s
  | demodulate (f : PixelFormat) (noise : Word) (hi : s.initialized = true) (hn : 0 ≤ noise.toInt)
      (hf : pixelFormat? s.output.format = some f)
      (hw : admits s.writable s.output.base.toNat (outputBytes s f) = true)
      (hr : admits s.readable s.output.base.toNat (outputBytes s f) = true) :
      Effect s (.demodulate noise) (demodulateField f noise s)
  | bpp4fmt (format : Word) : Effect s (.bpp4fmt format) s
  | sincos14 (angle : Word) : Effect s (.sincos14 angle) s
  | setctl (reg : Nat) (v : Word) (r : CtlReg) (hr : ctlReg? s.cfg reg = some r) :
      Effect s (.setctl reg v) (writeCtl s v r)
  | getctl (reg : Nat) (r : CtlReg) (hr : ctlReg? s.cfg reg = some r) : Effect s (.getctl reg) s

/-- The two ends of a command: a fault that leaves the state as it was, or an effect that is answered. -/
def EndsIn (s : State) (i : Instr) (t : State) : Prop :=
  (∃ c, t = faulted c s) ∨ ∃ r0 r1 u, Effect s i u ∧ t = answered r0 r1 u

theorem EndsIn.fault (s : State) (i : Instr) (c : Cause) : EndsIn s i (faulted c s) := Or.inl ⟨c, rfl⟩

theorem EndsIn.answer {s : State} {i : Instr} {u : State} (r0 r1 : Word) (h : Effect s i u) :
    EndsIn s i (answered r0 r1 u) :=
  Or.inr ⟨r0, r1, u, h, rfl⟩

/-- SETCTL to an implemented register (R270). -/
theorem setRegister_ends (reg : Nat) (r : CtlReg) (v : Word) (s t : State) (hr : ctlReg? s.cfg reg = some r)
    (h : setRegister r v s = .next t) : EndsIn s (.setctl reg v) t := by
  rcases setRegister_cases r v s with ⟨_, he⟩ | ⟨_, _, _, he⟩ | ⟨_, _, he⟩ <;> cases he.symm.trans h
  · exact .fault ..
  · exact .fault ..
  · exact .answer _ _ (.setctl reg v r hr)

/-- What a command that answers a next state did (R115): the one case split over the nine commands. -/
theorem exec_ends (i : Instr) (s t : State) (h : exec i s = .next t) : EndsIn s i t := by
  cases i with
  | init w hh f b =>
    rcases execInit_cases w hh f b s with ⟨hd, he⟩ | ⟨_, he⟩ <;> cases he.symm.trans h
    · exact .answer _ _ (.init w hh f b hd)
    · exact .fault ..
  | resize w hh f b =>
    rcases execResize_cases w hh f b s with ⟨_, he⟩ | ⟨hi, hd, he⟩ | ⟨_, _, he⟩ <;> cases he.symm.trans h
    · exact .fault ..
    · exact .answer _ _ (.resize w hh f b hi hd)
    · exact .fault ..
  | reset =>
    rcases execReset_cases s with ⟨_, he⟩ | ⟨hi, he⟩ <;> cases he.symm.trans h
    · exact .fault ..
    · exact .answer _ _ (.reset hi)
  | modulate =>
    rcases execModulate_cases s with ⟨_, he⟩ | ⟨hi, hf, he⟩ | ⟨_, _, _, _, _, he⟩ | ⟨f, hi, hf, hc, he⟩ <;>
      cases he.symm.trans h
    · exact .fault ..
    · exact .answer _ _ (.modulateUnsupported hi hf)
    · exact .fault ..
    · exact .answer _ _ (.modulate f hi hf hc)
  | demodulate noise =>
    rcases execDemodulate_cases noise s with ⟨_, he⟩ | ⟨_, _, he⟩ | ⟨hi, hn, hf, he⟩ | ⟨_, _, _, _, _, he⟩ |
      ⟨f, hi, hn, hf, hw, hr, he⟩ <;> cases he.symm.trans h
    · exact .fault ..
    · exact .fault ..
    · exact .answer _ _ (.demodulateUnsupported noise hi hn hf)
    · exact .fault ..
    · exact .answer _ _ (.demodulate f noise hi hn hf hw hr)
  | bpp4fmt format =>
    cases respondOk_next _ _ _ _ h
    exact .answer _ _ (.bpp4fmt format)
  | sincos14 angle =>
    cases respondOk_next _ _ _ _ h
    exact .answer _ _ (.sincos14 angle)
  | setctl reg v =>
    rcases execSetctl_cases reg v s with ⟨_, he⟩ | ⟨r, hr, he⟩
    · cases he.symm.trans h
      exact .fault ..
    · exact setRegister_ends reg r v s t hr (he.symm.trans h)
  | getctl reg =>
    rcases execGetctl_cases reg s with ⟨_, he⟩ | ⟨r, hr, he⟩ <;> cases he.symm.trans h
    · exact .fault ..
    · exact .answer _ _ (.getctl reg r hr)

/-- SETCTL writes the monitor controls and the settings bank, and nothing else (R270). -/
theorem writeCtl_eq (s : State) (v : Word) (r : CtlReg) :
    writeCtl s v r = setSettings (setMonitor s (writeCtl s v r).monitor) (writeCtl s v r).settings := by
  cases r <;> rfl

/-! ## The writers of each piece of state -/

/-- Settles O59: a fault writes the cause register and the response only, and each effect writes what its named
updates write. -/
theorem writersOfEachPieceOfState : Obligations.WritersOfEachPieceOfState := by
  intro i s t h
  rcases exec_ends i s t h with ⟨c, rfl⟩ | ⟨r0, r1, u, he, rfl⟩
  · simp
  · cases he with
    | init => simp [initCrt]
    | resize => simp
    | reset => simp
    | modulateUnsupported => simp
    | modulate => simp
    | demodulateUnsupported => simp
    | demodulate => simp [demodulateField]
    | bpp4fmt => simp
    | sincos14 => simp
    | setctl =>
      rw [writeCtl_eq]
      simp
    | getctl => simp

end Sys2Proof.Machine
end

section
/-! The field buffers and their ranges (R41, R42, R205, R246). -/

namespace Sys2Proof.Machine

open Sys2Proof.Claims

/-! ## A field buffer with its range -/

/-- A whole field of samples in `[lo, hi]` (R11, R41). -/
def FieldIn (c : Config) (lo hi : Int) (b : Buffer) : Prop := FieldSized c b ∧ SamplesIn b lo hi

theorem fieldIn_zeroBuffer (c : Config) (lo hi : Int) (h0 : lo ≤ 0) (h1 : 0 ≤ hi) : FieldIn c lo hi (zeroBuffer c) := by
  refine ⟨Array.size_replicate, fun v hv => ?_⟩
  have hzero : (0 : Sample).toInt = 0 := rfl
  rw [(Array.mem_replicate.mp hv).2, hzero]
  exact ⟨h0, h1⟩

/-- A value of the signed 8-bit range is stored as it is (R41). -/
theorem setWidth_toInt (v : Word) (h0 : -128 ≤ v.toInt) (h1 : v.toInt ≤ 127) :
    (v.setWidth 8 : Sample).toInt = v.toInt := by
  conv_rhs => rw [← sext8_setWidth v h0 h1, sext8, BitVec.toInt_signExtend_of_le (by decide)]

/-- A write of a value in the range keeps the range, where the range is one of 8-bit values (R41). -/
theorem fieldIn_putSample {c : Config} {lo hi : Int} {b : Buffer} (i : Nat) (v : Word) (hlo : -128 ≤ lo) (hhi : hi ≤ 127)
    (hv : lo ≤ v.toInt ∧ v.toInt ≤ hi) (hb : FieldIn c lo hi b) : FieldIn c lo hi (putSample b i v) := by
  obtain ⟨hsize, hrange⟩ := hb
  refine ⟨(size_putSample b i v).trans hsize, fun w hw => ?_⟩
  rcases Array.mem_or_eq_of_mem_setIfInBounds hw with hold | rfl
  · exact hrange w hold
  · rw [setWidth_toInt v (by omega) (by omega)]
    exact hv

/-! ## The ranges of what MODULATE writes (R190 to R205) -/

/-- A level of `analog`: within `[-40, 110]` (R205). -/
def AnalogLevel (v : Word) : Prop := -40 ≤ v.toInt ∧ v.toInt ≤ 110

/-- `analog` with the size and the range of R205. -/
abbrev AnalogField (c : Config) (b : Buffer) : Prop := FieldIn c (-40) 110 b

theorem analogField_putSample {c : Config} {b : Buffer} (i : Nat) (v : Word) (hv : AnalogLevel v)
    (hb : AnalogField c b) : AnalogField c (putSample b i v) :=
  fieldIn_putSample i v (by decide) (by decide) hv hb

theorem analogLevel_sync : AnalogLevel syncLevel := by unfold AnalogLevel; decide

theorem analogLevel_blank : AnalogLevel blankLevel := by unfold AnalogLevel; decide

theorem analogField_fillLine {c : Config} {b : Buffer} (base t0 t1 : Nat) (v : Word) (hv : AnalogLevel v)
    (hb : AnalogField c b) : AnalogField c (fillLine base t0 t1 v b) :=
  forRange_rule t0 t1 b _ (AnalogField c) hb fun i _ _ _ hx => analogField_putSample (base + i) v hv hx

theorem analogField_fillSync {c : Config} {b : Buffer} (base t0 t1 : Nat) (hb : AnalogField c b) :
    AnalogField c (fillLine base t0 t1 syncLevel b) := analogField_fillLine base t0 t1 _ analogLevel_sync hb

theorem analogField_fillBlank {c : Config} {b : Buffer} (base t0 t1 : Nat) (hb : AnalogField c b) :
    AnalogField c (fillLine base t0 t1 blankLevel b) := analogField_fillLine base t0 t1 _ analogLevel_blank hb

/-- Two sync pulses with blanking after each: the shape of lines 0 to 9 (R191, R192). -/
theorem analogField_twoPulses {c : Config} {b : Buffer} (base t1 t2 t3 t4 : Nat) (hb : AnalogField c b) :
    AnalogField c (fillLine base t3 t4 blankLevel (fillLine base t2 t3 syncLevel
      (fillLine base t1 t2 blankLevel (fillLine base 0 t1 syncLevel b)))) :=
  analogField_fillBlank _ _ _ (analogField_fillSync _ _ _ (analogField_fillBlank _ _ _ (analogField_fillSync _ _ _ hb)))

theorem analogField_equalizingLine {c : Config} {b : Buffer} (base : Nat) (hb : AnalogField c b) :
    AnalogField c (equalizingLine c base b) := analogField_twoPulses base _ _ _ _ hb

theorem analogField_vsyncLine {c : Config} {b : Buffer} (field : Bool) (base : Nat) (hb : AnalogField c b) :
    AnalogField c (vsyncLine c field base b) := analogField_twoPulses base _ _ _ _ hb

/-- Lines 10 to 261 before their burst hold two levels (R193). -/
theorem analogField_bodyLine {c : Config} {b : Buffer} (n base : Nat) (hb : AnalogField c b) :
    AnalogField c (bodyLine c n base b) := by
  have h := analogField_fillBlank base (bwBeg c) (avBeg c) (analogField_fillSync base (syncBeg c) (bwBeg c)
    (analogField_fillBlank base 0 (syncBeg c) hb))
  unfold bodyLine
  dsimp only
  split
  · exact analogField_fillBlank base (avBeg c) (hres c) h
  · exact h

/-- The sine of R143 stays within 40000, so that at scale 32 it is within 40 (R189). -/
theorem sincos14_fst_range (angle : Word) : -40000 ≤ (sincos14 angle).1.toInt ∧ (sincos14 angle).1.toInt ≤ 40000 := by
  have hsine : (sincos14 angle).1.toInt = (sineCosine angle.toInt).1 := congrArg Prod.fst (sincos14_toInt angle)
  have hhalf : sineCosine angle.toInt = if 8191 < angle.toInt % 16384 then
      (-(sineCosineHalf (angle.toInt % 16384 % 8192)).1, -(sineCosineHalf (angle.toInt % 16384 % 8192)).2)
      else sineCosineHalf (angle.toInt % 16384 % 8192) := rfl
  obtain ⟨⟨h0, h1⟩, -⟩ := sineCosineHalf_range (angle.toInt % 16384 % 8192) (by omega) (by omega)
  rw [hsine, hhalf]
  split
  · simp only
    omega
  · exact ⟨h0, h1⟩

theorem carrierSine_range (hue offset : Word) (k : Nat) :
    -40 ≤ (carrierSine hue offset k).toInt ∧ (carrierSine hue offset k).toInt ≤ 40 := by
  have h := sincos14_fst_range (degrees (hue + wordOf k * 90 + offset))
  rw [carrierSine, asr_toInt]
  omega

/-- Every entry of a carrier table, a monochrome one included, is within 40 (R189). -/
theorem rowAt_carrierTable_range (t : Settings) (offset : Word) (k : Nat) :
    -40 ≤ (rowAt (carrierTable t offset) k).toInt ∧ (rowAt (carrierTable t offset) k).toInt ≤ 40 := by
  have hk : k % 4 = 0 ∨ k % 4 = 1 ∨ k % 4 = 2 ∨ k % 4 = 3 := by omega
  unfold carrierTable
  split
  · rw [rowAt_mk]
    rcases hk with h | h | h | h <;> rw [h] <;> exact carrierSine_range ..
  · rw [rowAt, zeroRow, Vector.getElem_replicate]
    decide

/-- A carrier within 40 makes a burst within 25 (R194). -/
theorem analogLevel_burst (w : Word) (h0 : -40 ≤ w.toInt) (h1 : w.toInt ≤ 40) :
    AnalogLevel (asr (blankLevel + w * burstLevel) 5) := by
  have hlevel : burstLevel.toInt = 20 := rfl
  have hsum : blankLevel + w * burstLevel = w * burstLevel := BitVec.zero_add _
  have hmul : (w * burstLevel).toInt = w.toInt * 20 := mul_toInt w burstLevel (by rw [hlevel]; constructor <;> omega)
  rw [AnalogLevel, hsum, asr_toInt, hmul]
  omega

theorem analogLevel_burstSample (c : Config) (t : Settings) (pos : Nat) :
    AnalogLevel (burstSample c t (ccburst t) pos) := by
  obtain ⟨h0, h1⟩ := rowAt_carrierTable_range t 33 (if inverted c t then pos + ccSamples / 2 else pos)
  exact analogLevel_burst _ h0 h1

theorem analogField_burstLine {c : Config} (t : Settings) (base : Nat) {acc : Buffer × BurstRow}
    (hb : AnalogField c acc.1) : AnalogField c (burstLine c t (ccburst t) base acc).1 :=
  forRange_rule _ _ acc _ (fun x => AnalogField c x.1) hb fun pos _ _ _ hx =>
    analogField_putSample (base + pos) _ (analogLevel_burstSample c t pos) hx

/-- Every line of the blanking layout holds levels of `analog` (R190 to R194). -/
theorem analogField_layoutLine {c : Config} (t : Settings) (n : Nat) {acc : Buffer × BurstRow}
    (hb : AnalogField c acc.1) : AnalogField c (layoutLine c t (ccburst t) n acc).1 := by
  unfold layoutLine
  dsimp only
  split
  · exact analogField_equalizingLine _ hb
  · split
    · exact analogField_vsyncLine _ _ hb
    · exact analogField_burstLine t _ (analogField_bodyLine n _ hb)

theorem analogField_layoutField {c : Config} (t : Settings) {b : Buffer} (hb : AnalogField c b) :
    AnalogField c (layoutField c t b).1 :=
  forRange_rule 0 vres (b, zeroRow) (layoutLine c t (ccburst t)) (fun x => AnalogField c x.1) hb
    fun n _ _ _ hx => analogField_layoutLine t n hx

/-- An active sample is clamped to `[0, 110]` (R200). -/
theorem analogLevel_ireLevel (blackPoint whitePoint : Word) (p : Yiq) :
    AnalogLevel (ireLevel blackPoint whitePoint p) := by
  obtain ⟨h0, h1⟩ := clamp_bounds (blackLevel + blackPoint + asr ((p.y + p.i + p.q) *
    tdiv (whiteLevel * whitePoint) 100) 10) 0 110 (by decide)
  exact ⟨le_trans (by decide) h0, h1⟩

theorem analogField_paintRow {c : Config} (e : Paint) (y : Nat) {acc : Buffer × Iirs} (hb : AnalogField c acc.1) :
    AnalogField c (paintRow e y acc).1 :=
  forRange_rule _ _ _ _ (fun x : Buffer × Iirs => AnalogField c x.1) hb fun _ _ _ _ hx =>
    analogField_putSample _ _ (analogLevel_ireLevel ..) hx

theorem analogField_paintRows {c : Config} (e : Paint) {b : Buffer} (q : Iirs) (hb : AnalogField c b) :
    AnalogField c (paintRows e (b, q)).1 :=
  forRange_rule _ _ (b, q) _ (fun x : Buffer × Iirs => AnalogField c x.1) hb fun y _ _ _ hx =>
    analogField_paintRow e y hx

/-! ## The range of what DEMODULATE writes to `inp` (R212) -/

theorem noisySample_range (noise rn v : Word) :
    -127 ≤ (noisySample noise rn v).toInt ∧ (noisySample noise rn v).toInt ≤ 127 :=
  clamp_bounds _ (-127) 127 (by decide)

theorem fieldIn_addNoise {c : Config} (noise : Word) (analog : Buffer) {acc : Word × Buffer}
    (hb : FieldIn c (-127) 127 acc.2) : FieldIn c (-127) 127 (addNoise c noise analog acc).2 :=
  forRange_rule _ _ acc _ (fun x => FieldIn c (-127) 127 x.2) hb fun i _ _ _ hx =>
    fieldIn_putSample i _ (by decide) (by decide) (noisySample_range ..) hx

end Sys2Proof.Machine
end

section
/-! What DEMODULATE leaves: the output region, the sync seeds and the burst rows (R43, R44, R48, R82, R219 to R242). -/

namespace Sys2Proof.Machine

/-! ## The output region (R88, R89, R240 to R242) -/

/-- The output region of a scan has a row and ends inside the address space (R48, R89). -/
structure OutputFits (e : Scan) : Prop where
  rows : 1 ≤ e.output.outh.toInt
  region : e.output.base.toNat + natOf e.output.outw * natOf e.output.outh * e.format.bytes ≤ addressSpace

/-- Every output row ends inside the address space (R88, R89). -/
theorem OutputFits.row {e : Scan} (h : OutputFits e) (r : Nat) (hr : r < natOf e.output.outh) :
    rowAddr e r + pitch e ≤ addressSpace := by
  have hrows : (r + 1) * pitch e ≤ natOf e.output.outh * pitch e := Nat.mul_le_mul_right _ hr
  have hregion := h.region
  have hbytes : natOf e.output.outw * natOf e.output.outh * e.format.bytes = natOf e.output.outh * pitch e := by
    rw [pitch, Nat.mul_comm (natOf e.output.outw), Nat.mul_assoc]
  rw [Nat.succ_mul] at hrows
  rw [rowAddr]
  omega

/-- The pixels of a row keep the canonical form of memory, where the row ends inside the address space (R237). -/
theorem memoryWf_resample (e : Scan) (line : Nat) (lb : Array Yiq) (w : Window) (fuel px : Nat) (p : Word) (addr : Nat)
    (m : Memory) (haddr : addr + fuel * e.format.bytes ≤ addressSpace) (hm : memoryWf m = true) :
    memoryWf (resample e line lb w fuel px p addr m) = true := by
  induction fuel generalizing px p addr m with
  | zero => exact hm
  | succ fuel ih =>
    rw [Nat.succ_mul] at haddr
    rw [resample]
    split
    · exact ih _ _ _ _ (by omega) (memoryWf_writePixel m e.format addr _ (by omega) hm)
    · exact hm

/-- A row copy keeps the canonical form (R242). -/
theorem memoryWf_copyRow (e : Scan) (r : Nat) (m : Memory) (hr : rowAddr e r + pitch e ≤ addressSpace)
    (hm : memoryWf m = true) : memoryWf (copyRow e r m) = true :=
  forRange_rule 0 (pitch e) m _ (fun x => memoryWf x = true) hm fun k _ _ hk hx =>
    memoryWf_writeByte _ (rowAddr e r + k) _ (by omega) hx

/-- The copies of a band that ends inside the output keep the canonical form (R242). -/
theorem memoryWf_duplicateRows {e : Scan} (h : OutputFits e) (first last : Nat) (m : Memory)
    (hlast : last ≤ natOf e.output.outh) (hm : memoryWf m = true) : memoryWf (duplicateRows e first last m) = true :=
  forRange_rule (first + 1) (last - (bit e.monitor.scanlines).toNat) m _ (fun x => memoryWf x = true) hm
    fun r _ _ hr hx => memoryWf_copyRow e r _ (h.row r (by omega)) hx

/-- The first row of a line that is not skipped is an output row (R220). -/
theorem OutputFits.first_lt {e : Scan} (h : OutputFits e) (line : Nat)
    (hline : (bandBegin e line).toInt < e.output.outh.toInt) : natOf (bandBegin e line) < natOf e.output.outh := by
  have hrows := h.rows
  unfold natOf
  omega

/-- No band reaches past the output (R220). -/
theorem bandEnd_le (e : Scan) (line : Nat) : natOf (bandEnd e line) ≤ natOf e.output.outh := by
  have h : (bandEnd e line).toInt ≤ e.output.outh.toInt := by
    rw [bandEnd, smin_toInt]
    exact min_le_right _ _
  unfold natOf
  omega

/-! ## The line loop (R219) -/

/-- What every line keeps of what the loop carries (R43, R44, R82). -/
structure CarrySound (e : Scan) (c : LineCarry) : Prop where
  hsync : 0 ≤ c.hsync.toInt ∧ c.hsync.toInt < hres e.cfg
  ccfRows : c.ccf.length = ccVper e.cfg
  memory : memoryWf c.mem = true

theorem carrySound_demodLineBody {e : Scan} (h : OutputFits e) (line : Nat) (c : LineCarry)
    (hline : (bandBegin e line).toInt < e.output.outh.toInt) (hc : CarrySound e c) :
    CarrySound e (demodLineBody e line c) where
  hsync := hsyncAfter_range e.cfg c.hsync _ hc.hsync.1 hc.hsync.2
  ccfRows := by rw [demodLineBody_ccf, List.length_set, hc.ccfRows]
  memory := by
    rw [demodLineBody_mem]
    exact memoryWf_duplicateRows h _ _ _ (bandEnd_le e line)
      (memoryWf_resample e line _ _ _ _ _ _ _ (h.row _ (h.first_lt line hline)) hc.memory)

theorem carrySound_demodLine {e : Scan} (h : OutputFits e) (line : Nat) (c : LineCarry) (hc : CarrySound e c) :
    CarrySound e (demodLine e line c) := by
  by_cases hline : e.output.outh.toInt ≤ (bandBegin e line).toInt
  · rw [demodLine_skipped e line c hline]
    exact hc
  · rw [demodLine_not_skipped e line c (by omega)]
    exact carrySound_demodLineBody h line c (by omega) hc

theorem carrySound_demodLines {e : Scan} (h : OutputFits e) (c : LineCarry) (hc : CarrySound e c) :
    CarrySound e (demodLines e c) :=
  forRange_rule topLine botLine c (demodLine e) (CarrySound e) hc fun line x _ _ hx => carrySound_demodLine h line x hx

/-! ## The vertical seed (R214 to R216) -/

/-- A line number of the field as a seed: in `[0, VRES)` (R44). -/
def VsyncSeed (v : Word) : Prop := 0 ≤ v.toInt ∧ v.toInt < vres

theorem vsyncSeed_posmod (v : Word) : VsyncSeed (posmod v (wordOf vres)) :=
  ⟨posmod_nonneg v (wordOf vres) (by decide) (by decide), posmod_lt v (wordOf vres) (by decide) (by decide)⟩

theorem vsyncSeed_zero : VsyncSeed 0 := ⟨le_rfl, by decide⟩

theorem vsyncCandidate_lt (vsync : Word) (i : Int) : vsyncCandidate vsync i < vres := by
  obtain ⟨h0, h1⟩ := vsyncSeed_posmod (vsync + BitVec.ofInt 32 i)
  unfold vsyncCandidate natOf
  omega

/-- The search hits candidate lines only (R214). -/
theorem vsyncSearch_line_lt (c : Config) (inp : Buffer) (vsync : Word) (fuel : Nat) (i : Int) (line j : Nat)
    (h : vsyncSearch c inp vsync fuel i = some (line, j)) : line < vres := by
  induction fuel generalizing i with
  | zero => cases h
  | succ fuel ih =>
    rw [vsyncSearch] at h
    split at h
    · cases h
      exact vsyncCandidate_lt vsync i
    · exact ih (i + 1) h

/-- The seed after the search is in range when the seed before it was (R215, R216). -/
theorem vsyncSeed_vsyncAfter (c : Config) (inp : Buffer) (vsync : Word) (h : VsyncSeed vsync) :
    VsyncSeed (vsyncAfter c vsync (vsyncHit c inp vsync)) := by
  unfold vsyncAfter
  split
  · split
    · next line j hhit =>
      have hline : line < vres := vsyncSearch_line_lt c inp vsync _ _ line j hhit
      have hword : (wordOf line).toInt = line := wordOf_toInt line (hline.trans (by decide))
      rw [VsyncSeed, hword]
      omega
    · split
      · exact vsyncSeed_posmod _
      · exact h
  · exact vsyncSeed_posmod _

end Sys2Proof.Machine
end

section
/-! The invariant of 10_state.md: it holds after reset and every step keeps it (R41 to R48, R205, R246, R281). -/

namespace Sys2Proof.Machine

/-! ## What INIT, RESET and power-on reset put to zero (R62, R261, R265) -/

theorem analogField_zeroBuffer (c : Config) : AnalogField c (zeroBuffer c) :=
  fieldIn_zeroBuffer c (-40) 110 (by decide) (by decide)

theorem inpField_zeroBuffer (c : Config) : FieldIn c (-127) 127 (zeroBuffer c) :=
  fieldIn_zeroBuffer c (-127) 127 (by decide) (by decide)

theorem length_zeroCcf (c : Config) : (zeroCcf c).length = ccVper c := List.length_replicate

theorem hsyncSeed_zero (c : Config) : 0 ≤ (0 : Word).toInt ∧ (0 : Word).toInt < hres c := by
  have hzero : (0 : Word).toInt = 0 := rfl
  have hsize := hres_cases c
  omega

/-- Power-on state meets the invariant in any surroundings with canonical memory (R62). -/
theorem inv_powerOn (c : Config) (m : Memory) (readable writable : List Region) (port : List Word)
    (hm : memoryWf m = true) : (State.powerOn c m readable writable port).Inv where
  analogSize := (analogField_zeroBuffer c).1
  inpSize := (inpField_zeroBuffer c).1
  analogRange := (analogField_zeroBuffer c).2
  inpRange := (inpField_zeroBuffer c).2
  ccfRows := length_zeroCcf c
  hsyncRange := hsyncSeed_zero c
  vsyncRange := vsyncSeed_zero
  descriptor := fun h => Bool.noConfusion h
  cause := Nat.zero_le 5
  memory := hm

/-- Settles O57: reset is power-on with an empty memory. -/
theorem resetMeetsTheInvariant : Obligations.ResetMeetsTheInvariant := inv_powerOn _ _ _ _ _ rfl

/-! ## The updates of a step, each for every state that meets the invariant -/

section
variable {s : State} (h : s.Inv)
include h

theorem inv_powerOnReset : (powerOnReset s).Inv := inv_powerOn _ _ _ _ _ h.memory

theorem inv_consume (rest : List Word) : (consume s rest).Inv := { h with }

theorem inv_refuseFaulted : (refuseFaulted s).Inv := { h with }

theorem inv_answered (r0 r1 : Word) : (answered r0 r1 s).Inv := { h with }

/-- A fault stores one of the five causes (R281). -/
theorem inv_faulted (c : Cause) : (faulted c s).Inv := { h with cause := (code_range c).2 }

/-- INIT zeroes buffers and seeds and stores a descriptor it has checked (R261). -/
theorem inv_initCrt (w hh f b : Word) (hd : descriptorOk w hh f b = true) : (initCrt w hh f b s).Inv where
  analogSize := (analogField_zeroBuffer s.cfg).1
  inpSize := (inpField_zeroBuffer s.cfg).1
  analogRange := (analogField_zeroBuffer s.cfg).2
  inpRange := (inpField_zeroBuffer s.cfg).2
  ccfRows := length_zeroCcf s.cfg
  hsyncRange := hsyncSeed_zero s.cfg
  vsyncRange := vsyncSeed_zero
  descriptor := fun _ => hd
  cause := h.cause
  memory := h.memory

/-- RESIZE stores a descriptor it has checked (R264). -/
theorem inv_setOutput (w hh f b : Word) (hd : descriptorOk w hh f b = true) : (setOutput w hh f b s).Inv :=
  { h with descriptor := fun _ => hd }

/-- RESET zeroes the seeds (R265). -/
theorem inv_resetMonitor : (resetMonitor s).Inv :=
  { h with hsyncRange := hsyncSeed_zero s.cfg, vsyncRange := vsyncSeed_zero }

theorem inv_setMonitor (m : Monitor) : (setMonitor s m).Inv := { h with }

theorem inv_setSettings (t : Settings) : (setSettings s t).Inv := { h with }

/-- SETCTL writes nothing the invariant speaks of (R270). -/
theorem inv_writeCtl (v : Word) (r : CtlReg) : (writeCtl s v r).Inv := by
  rw [writeCtl_eq]
  exact inv_setSettings (inv_setMonitor h _) _

/-- Step 1 of MODULATE writes nothing the invariant speaks of (R183). -/
theorem inv_initIirs : (initIirs s).Inv := by
  unfold initIirs
  split
  · exact h
  · exact { h with }

/-- MODULATE lays out and paints levels of `analog`, and seeds every row of `ccf` (R190 to R206). -/
theorem inv_modulateField (f : PixelFormat) : (modulateField f s).Inv :=
  have hlaid : AnalogField s.cfg (layoutField s.cfg s.settings s.analog).1 :=
    analogField_layoutField s.settings ⟨h.analogSize, h.analogRange⟩
  have hfield : AnalogField s.cfg (modulateField f s).analog := by
    rw [modulateField_analog]
    exact analogField_paintRows (paintOf s f) _ hlaid
  { h with
    analogSize := hfield.1
    analogRange := hfield.2
    ccfRows := by rw [modulateField_ccf, seedCcf, List.length_replicate, modulateField_cfg] }

/-- Step 1 of DEMODULATE clamps what it writes to `inp` (R212). -/
theorem inv_noiseState (noise : Word) : (noiseState noise s).Inv :=
  have hfield : FieldIn s.cfg (-127) 127 (noiseState noise s).inp :=
    fieldIn_addNoise noise s.analog ⟨h.inpSize, h.inpRange⟩
  { h with
    inpSize := hfield.1
    inpRange := hfield.2 }

/-- Step 2 of DEMODULATE leaves a line number (R215, R216). -/
theorem inv_setVsync (v : Word) (hv : VsyncSeed v) : { s with vsync := v }.Inv := { h with vsyncRange := hv }

/-- Step 4 of DEMODULATE keeps what its lines keep (R219). -/
theorem inv_scanState (start : DemodInput) (f : PixelFormat) (noise : Word) (field : Bool)
    (hfits : OutputFits (scanOf start s f noise field)) : (scanState start f noise field s).Inv :=
  have hcarry : CarrySound (scanOf start s f noise field) (demodLines (scanOf start s f noise field) (carryOf s)) :=
    carrySound_demodLines hfits _ ⟨h.hsyncRange, h.ccfRows, h.memory⟩
  { h with
    ccfRows := hcarry.ccfRows
    hsyncRange := hcarry.hsync
    memory := hcarry.memory }

/-- The descriptor of an initialized block has a row (R48). -/
theorem inv_outh (hi : s.initialized = true) : 1 ≤ s.output.outh.toInt := by
  have hd := h.descriptor hi
  simp only [DescriptorSound, descriptorOk, dimOk, Bool.and_eq_true, decide_eq_true_eq] at hd
  obtain ⟨⟨_, hrows, _⟩, _⟩ := hd
  exact hrows

/-- DEMODULATE with an output region the platform admits (R210, R211). -/
theorem inv_demodulateField (f : PixelFormat) (noise : Word) (hi : s.initialized = true)
    (hw : admits s.writable s.output.base.toNat (outputBytes s f) = true) : (demodulateField f noise s).Inv :=
  have hseed : VsyncSeed (vsyncAfter s.cfg s.vsync (vsyncHit s.cfg (noiseState noise s).inp s.vsync)) :=
    vsyncSeed_vsyncAfter s.cfg _ s.vsync h.vsyncRange
  have hrows : 1 ≤ s.output.outh.toInt := inv_outh h hi
  have hregion : s.output.base.toNat + outputBytes s f ≤ addressSpace := ((admits_iff _ _ _).mp hw).1
  inv_scanState (inv_setVsync (inv_noiseState h noise) _ hseed) _ f noise _ ⟨hrows, hregion⟩

/-- Every effect of a command keeps the invariant. -/
theorem inv_effect {i : Instr} {u : State} (he : Effect s i u) : u.Inv := by
  cases he with
  | init w hh f b hd => exact inv_initCrt h w hh f b hd
  | resize w hh f b _ hd => exact inv_setOutput h w hh f b hd
  | reset => exact inv_resetMonitor h
  | modulateUnsupported => exact inv_initIirs h
  | modulate f => exact inv_modulateField (inv_initIirs h) f
  | demodulateUnsupported => exact h
  | demodulate f noise hi _ _ hw => exact inv_demodulateField h f noise hi hw
  | bpp4fmt => exact h
  | sincos14 => exact h
  | setctl _ v r => exact inv_writeCtl h v r
  | getctl => exact h

theorem inv_exec (i : Instr) (t : State) (he : exec i s = .next t) : t.Inv := by
  rcases exec_ends i s t he with ⟨c, rfl⟩ | ⟨r0, r1, u, heff, rfl⟩
  · exact inv_faulted h c
  · exact inv_answered (inv_effect h heff) r0 r1

end

/-- Settles O58: power-on reset, a refused word, a decode fault and every command keep the invariant. -/
theorem stepKeepsTheInvariant : Obligations.StepKeepsTheInvariant := by
  intro s t h hstep
  rcases step_cases s t hstep with ⟨_, rfl⟩ | ⟨_, rest, _, _, _, rfl⟩ | ⟨_, _, rfl⟩ | ⟨i, rest, _, _, _, he⟩
  · exact inv_powerOnReset h
  · exact inv_refuseFaulted (inv_consume h rest)
  · exact inv_faulted (inv_consume h _) .illegalCommand
  · exact inv_exec (inv_consume h rest) i t he

end Sys2Proof.Machine
end

section
/-! O52: pixel formats by their codes, and what a pixel store leaves (R84, R86, R124, R241). -/

namespace Sys2Proof.Machine

open Sys2Proof.Claims

/-- A recognized format has the bytes per pixel and the offsets of R84 for its code. -/
theorem pixelFormat?_offsets (code : Word) (f : PixelFormat) (h : pixelFormat? code = some f) :
    f.bytes = bytesPerPixel code.toInt ∧ f.rOff = redOffset code.toInt ∧ f.gOff = greenOffset code.toInt ∧
      f.bOff = blueOffset code.toInt := by
  unfold pixelFormat? at h
  split_ifs at h with h0 h1 h2 h3 h4 h5 <;> cases h <;> subst code <;> decide

/-- The codes after the sixth are no formats (R124). -/
theorem pixelFormat?_eq_none (code : Word) (h : 5 < code.toNat) : pixelFormat? code = none := by
  have hne (k : Word) (hk : k.toNat ≤ 5) : code ≠ k := by
    rintro rfl
    omega
  rw [pixelFormat?, if_neg (hne 0 (by decide)), if_neg (hne 1 (by decide)), if_neg (hne 2 (by decide)),
    if_neg (hne 3 (by decide)), if_neg (hne 4 (by decide)), if_neg (hne 5 (by decide))]

/-- A byte of memory as a channel value (R83, R86). -/
theorem byteWord_toNat (b : Byte) : (byteWord b).toNat = b.toNat := by
  have hb := b.isLt
  rw [byteWord, BitVec.toNat_setWidth, Nat.mod_eq_of_lt (by omega)]

/-- A byte after a pixel store: the three channels at their offsets, every other byte as before (R241). -/
theorem readByte_writePixel (m : Memory) (f : PixelFormat) (a x : Nat) (p : Rgb) (ha : a + f.bytes ≤ addressSpace)
    (hm : memoryWf m = true) : readByte (writePixel m f a p) x =
      if x = a + f.rOff then p.r.setWidth 8 else if x = a + f.gOff then p.g.setWidth 8
      else if x = a + f.bOff then p.b.setWidth 8 else readByte m x := by
  obtain ⟨hr, hg, hb, hrg, hrb, hgb⟩ := offsets_sound f
  have hmr := memoryWf_writeByte m (a + f.rOff) (p.r.setWidth 8) (by omega) hm
  have hmg := memoryWf_writeByte _ (a + f.gOff) (p.g.setWidth 8) (by omega) hmr
  rw [writePixel, readByte_writeByte _ _ _ _ hmg, readByte_writeByte _ _ _ _ hmr, readByte_writeByte _ _ _ _ hm]
  by_cases hxr : x = a + f.rOff
  · rw [if_neg (by omega), if_neg (by omega), if_pos hxr.symm, if_pos hxr]
  · rw [if_neg hxr, if_neg (Ne.symm hxr)]
    by_cases hxg : x = a + f.gOff
    · rw [if_neg (by omega), if_pos hxg.symm, if_pos hxg]
    · rw [if_neg hxg, if_neg (Ne.symm hxg)]
      exact if_congr eq_comm rfl rfl

/-- Settles O52: the six codes written out, the read as defined, and the store byte by byte. -/
theorem pixelStoreWritesThreeBytes : Obligations.PixelStoreWritesThreeBytes := by
  refine ⟨by decide, pixelFormat?_eq_none, fun m code f a hm hf ha => ?_⟩
  obtain ⟨hbytes, hr, hg, hb⟩ := pixelFormat?_offsets code f hf
  rw [← hbytes] at ha
  rw [← hr, ← hg, ← hb]
  exact ⟨⟨byteWord_toNat _, byteWord_toNat _, byteWord_toNat _⟩, fun p x => readByte_writePixel m f a x p ha hm⟩

end Sys2Proof.Machine
end

section
/-! O44: the horizontal search (R81, R221). -/

namespace Sys2Proof.Machine

open Sys2Proof.Claims

/-- Where the signal line of an output line starts, over the integers (R221). -/
theorem signalLine_eq_ofInt (e : Scan) (line : Nat) (hline : line < 262) (h0 : 0 ≤ e.vsync.toInt)
    (h1 : e.vsync.toInt < 262) :
    signalLine e line = BitVec.ofInt 32 ((line + e.vsync.toInt) % 262 * hres e.cfg) := by
  have hv : (wordOf vres).toInt = 262 := rfl
  have hl : (wordOf line).toInt = line := wordOf_toInt _ (by omega)
  have hsum : (wordOf line + e.vsync).toInt = line + e.vsync.toInt := by
    rw [add_toInt _ _ (by rw [hl]; constructor <;> omega), hl]
  have hrow : posmod (wordOf line + e.vsync) (wordOf vres) = BitVec.ofInt 32 ((line + e.vsync.toInt) % 262) := by
    apply eq_ofInt_of_toInt
    rw [posmod_toInt _ _ (by decide) (by decide), hv, hsum]
  rw [signalLine, hrow, BitVec.ofInt_mul, BitVec.ofInt_natCast]
  rfl

/-- What the accumulator of the search holds before offset `first + n`: the running sum so far (R221). -/
def sumBefore (e : Scan) (origin : Word) (first : Int) : Nat → Int
  | 0 => 0
  | n + 1 => sumFrom e origin first n

theorem sumFrom_eq_sumBefore (e : Scan) (origin : Word) (first : Int) (n : Nat) :
    sumFrom e origin first n =
      sumBefore e origin first n + (e.input (origin + BitVec.ofInt 32 (first + n))).toInt := by
  cases n with
  | zero => simp [sumFrom, sumBefore]
  | succ n => simp [sumFrom, sumBefore]

/-- The accumulator after an offset holds the running sum, while no sum wraps (R221). -/
theorem accumulated_toInt (e : Scan) (origin acc : Word) (first : Int) (n : Nat)
    (hacc : acc.toInt = sumBefore e origin first n) (hn : n < 2 ^ 23) :
    (acc + e.input (origin + BitVec.ofInt 32 (first + n))).toInt = sumFrom e origin first n := by
  have hsum := sumFrom_range e origin first n
  rw [sumFrom_eq_sumBefore, ← hacc] at hsum ⊢
  exact add_toInt _ _ ⟨by omega, by omega⟩

/-- What a search over the offsets `first + n .. first + n + fuel - 1` may answer: the first that reaches the
threshold, or none where none does (R221). -/
def FirstReached (e : Scan) (origin : Word) (first : Int) (n fuel : Nat) : Option Int → Prop
  | some i => ∃ k, n ≤ k ∧ k < n + fuel ∧ i = first + k ∧ sumFrom e origin first k ≤ (hsyncLimit e.cfg).toInt ∧
      ∀ j, n ≤ j → j < k → ¬ sumFrom e origin first j ≤ (hsyncLimit e.cfg).toInt
  | none => ∀ k, n ≤ k → k < n + fuel → ¬ sumFrom e origin first k ≤ (hsyncLimit e.cfg).toInt

/-- An offset that does not reach the threshold may be put before the others. -/
theorem FirstReached.of_succ {e : Scan} {origin : Word} {first : Int} {n fuel : Nat} {hit : Option Int}
    (hn : ¬ sumFrom e origin first n ≤ (hsyncLimit e.cfg).toInt) (h : FirstReached e origin first (n + 1) fuel hit) :
    FirstReached e origin first n (fuel + 1) hit := by
  have hcons (j : Nat) (hj : n ≤ j) : j = n ∨ n + 1 ≤ j := by omega
  cases hit with
  | some i =>
    obtain ⟨k, hk0, hk1, hi, hreach, hbefore⟩ := h
    refine ⟨k, by omega, by omega, hi, hreach, fun j hj hjk => ?_⟩
    rcases hcons j hj with rfl | hj
    · exact hn
    · exact hbefore j hj hjk
  | none =>
    intro k hk0 hk1
    rcases hcons k hk0 with rfl | hk
    · exact hn
    · exact h k hk (by omega)

/-- The search answers the first offset that reaches the threshold (R221). -/
theorem hsyncSearch_firstReached (e : Scan) (origin acc : Word) (first : Int) (n fuel : Nat)
    (hacc : acc.toInt = sumBefore e origin first n) (hn : n + fuel ≤ 2 ^ 23) :
    FirstReached e origin first n fuel (hsyncSearch e origin fuel (first + n) acc) := by
  induction fuel generalizing n acc with
  | zero =>
    intro k hk0 hk1
    omega
  | succ fuel ih =>
    have hsum := accumulated_toInt e origin acc first n hacc (by omega)
    rw [hsyncSearch, hsum]
    split
    · next hreach => exact ⟨n, le_rfl, by omega, rfl, hreach, fun j hj hjn => by omega⟩
    · next hreach =>
      have hnext := ih (acc + e.input (origin + BitVec.ofInt 32 (first + n))) (n + 1) hsum (by omega)
      rw [Nat.cast_add_one, ← add_assoc] at hnext
      exact hnext.of_succ hreach

/-- The search of a line, over its whole window (R221). -/
theorem hsyncHit_firstReached (e : Scan) (line : Nat) (hsync : Word) (hw : e.cfg.hsyncWindow < 2 ^ 22) :
    FirstReached e (signalLine e line + hsync + wordOf (syncBeg e.cfg)) (-(e.cfg.hsyncWindow : Int)) 0
      (2 * e.cfg.hsyncWindow) (hsyncHit e line hsync) := by
  have h := hsyncSearch_firstReached e (signalLine e line + hsync + wordOf (syncBeg e.cfg)) 0
    (-(e.cfg.hsyncWindow : Int)) 0 (2 * e.cfg.hsyncWindow) rfl (by omega)
  rw [Nat.cast_zero, add_zero] at h
  exact h

/-- Settles O44: the search of a line answers as `FirstReached` says, with the window's first offset. -/
theorem horizontalSearchFindsTheFirst : Obligations.HorizontalSearchFindsTheFirst := by
  intro e line hsync hline h0 h1 hw limit origin reaches
  have h := hsyncHit_firstReached e line hsync hw
  rw [signalLine_eq_ofInt e line hline h0 h1] at h
  cases hhit : hsyncHit e line hsync with
  | some i =>
    rw [hhit] at h
    obtain ⟨k, _, hk, hi, hreach, hbefore⟩ := h
    exact ⟨k, by omega, by omega, hreach, fun m hm => hbefore m (Nat.zero_le m) hm⟩
  | none =>
    rw [hhit] at h
    exact fun n hn => h n (Nat.zero_le n) (by omega)

end Sys2Proof.Machine
end

section
/-! O50: the resampling loop (R237 to R241, R310). -/

namespace Sys2Proof.Machine

open Sys2Proof.Claims

/-! ## Packed pixels (R85, R240, R241) -/

/-- A pixel whose channels are bytes (R85). -/
structure ByteChannels (p : Rgb) : Prop where
  r_lt : p.r.toNat < 256
  g_lt : p.g.toNat < 256
  b_lt : p.b.toNat < 256

/-- The packed value of a pixel as a number (R85). -/
theorem packRgb_toNat (p : Rgb) (hp : ByteChannels p) :
    (packRgb p).toNat = p.r.toNat * 65536 + p.g.toNat * 256 + p.b.toNat := by
  obtain ⟨hr, hg, hb⟩ := hp
  have hgb : p.g.toNat <<< 8 ||| p.b.toNat = p.g.toNat * 256 + p.b.toNat := by
    rw [← Nat.shiftLeft_add_eq_or_of_lt hb, Nat.shiftLeft_eq]
  have hrgb : p.r.toNat <<< 16 ||| (p.g.toNat * 256 + p.b.toNat) =
      p.r.toNat * 65536 + (p.g.toNat * 256 + p.b.toNat) := by
    rw [← Nat.shiftLeft_add_eq_or_of_lt (by omega), Nat.shiftLeft_eq]
  have hshl (v : Word) (k : Nat) (hv : v.toNat < 256) (hk : k ≤ 16) : (shl v k).toNat = v.toNat <<< k := by
    have hpow : 2 ^ k ≤ 2 ^ 16 := Nat.pow_le_pow_right (by decide) hk
    have hprod : v.toNat * 2 ^ k ≤ 255 * 2 ^ 16 := Nat.mul_le_mul (by omega) hpow
    rw [shl, BitVec.toNat_shiftLeft, Nat.shiftLeft_eq, Nat.mod_eq_of_lt (by omega)]
  rw [packRgb, BitVec.toNat_or, BitVec.toNat_or, hshl _ _ hr le_rfl, hshl _ _ hg (by decide), Nat.or_assoc, hgb, hrgb,
    Nat.add_assoc]

theorem bits_toNat (w : Word) (hi lo : Nat) : (bits w hi lo).toNat = w.toNat / 2 ^ lo % 2 ^ (hi + 1 - lo) := by
  have hw := w.isLt
  have hle : w.toNat / 2 ^ lo % 2 ^ (hi + 1 - lo) ≤ w.toNat := (Nat.mod_le _ _).trans (Nat.div_le_self _ _)
  rw [bits, wordOf, BitVec.toNat_ofNat, Nat.mod_eq_of_lt (by omega)]

/-- The channels of a packed value that is the number of three bytes (R241). -/
theorem unpackRgb_toNat (v : Word) (r g b : Nat) (hr : r < 256) (hg : g < 256) (hb : b < 256)
    (hv : v.toNat = r * 65536 + g * 256 + b) :
    (unpackRgb v).r.toNat = r ∧ (unpackRgb v).g.toNat = g ∧ (unpackRgb v).b.toNat = b := by
  simp only [unpackRgb, bits_toNat, hv]
  omega

/-- A byte of a masked number whose mask keeps the seven low bits of that byte. -/
theorem and_byte_of_sevenBits (x m k : Nat) (hm : m / 2 ^ k % 2 ^ 8 = 2 ^ 7 - 1) :
    (x &&& m) / 2 ^ k % 2 ^ 8 = x / 2 ^ k % 2 ^ 7 := by
  rw [Nat.and_div_two_pow, Nat.and_mod_two_pow, hm, Nat.and_two_pow_sub_one_eq_mod]
  omega

/-- The mask of R240, one place down, on a halved packed value: each byte keeps its own seven bits. -/
theorem half_and_mask (n r g b : Nat) (hr : r < 256) (hg : g < 256) (hb : b < 256) (hn : n = r * 65536 + g * 256 + b) :
    n / 2 &&& 0x7f7f7f = r / 2 * 65536 + g / 2 * 256 + b / 2 := by
  have hle : n / 2 &&& 0x7f7f7f ≤ 0x7f7f7f := Nat.and_le_right
  have hb' := and_byte_of_sevenBits (n / 2) 0x7f7f7f 0 (by decide)
  have hg' := and_byte_of_sevenBits (n / 2) 0x7f7f7f 8 (by decide)
  have hr' := and_byte_of_sevenBits (n / 2) 0x7f7f7f 16 (by decide)
  simp only [Nat.reducePow, Nat.div_one] at hr' hg' hb'
  have hn2 : n / 2 = r * 32768 + g * 128 + b / 2 := by omega
  have hbn : n / 2 % 128 = b / 2 := by omega
  have hgn : n / 2 / 256 % 128 = g / 2 := by omega
  have hrn : n / 2 / 65536 = r / 2 := by
    have hdiv : n / 2 / 65536 = (r * 32768 + g * 128 + b / 2) / 32768 / 2 := by rw [hn2, Nat.div_div_eq_div_mul]
    omega
  omega

/-- One side of the blend: each channel is halved, rounded down, and no bit crosses into the next (R240). -/
theorem halfPacked_toNat (v : Word) (r g b : Nat) (hr : r < 256) (hg : g < 256) (hb : b < 256)
    (hv : v.toNat = r * 65536 + g * 256 + b) :
    (asr (v &&& 0xfefeff) 1).toNat = r / 2 * 65536 + g / 2 * 256 + b / 2 := by
  have hand : (v &&& 0xfefeff).toNat = v.toNat &&& 0xfefeff := BitVec.toNat_and ..
  have hle : v.toNat &&& 0xfefeff ≤ 0xfefeff := Nat.and_le_right
  have hhalf : (v.toNat &&& 0xfefeff) / 2 = v.toNat / 2 &&& 0x7f7f7f := Nat.and_div_two_pow (n := 1)
  have hint : (asr (v &&& 0xfefeff) 1).toInt = ((v.toNat / 2 &&& 0x7f7f7f : Nat) : Int) := by
    rw [asr_toInt, BitVec.toInt_eq_toNat_of_lt (by omega), hand, ← hhalf]
    rfl
  rw [← half_and_mask v.toNat r g b hr hg hb hv]
  have hcond := BitVec.toInt_eq_toNat_cond (asr (v &&& 0xfefeff) 1)
  split at hcond <;> omega

/-- The blend of two pixels, channel by channel (R240). -/
theorem unpackRgb_blendPacked (n o : Rgb) (hn : ByteChannels n) (ho : ByteChannels o) :
    (unpackRgb (blendPacked (packRgb n) (packRgb o))).r.toNat = n.r.toNat / 2 + o.r.toNat / 2 ∧
      (unpackRgb (blendPacked (packRgb n) (packRgb o))).g.toNat = n.g.toNat / 2 + o.g.toNat / 2 ∧
      (unpackRgb (blendPacked (packRgb n) (packRgb o))).b.toNat = n.b.toNat / 2 + o.b.toNat / 2 := by
  have hnew := halfPacked_toNat _ _ _ _ hn.r_lt hn.g_lt hn.b_lt (packRgb_toNat n hn)
  have hold := halfPacked_toNat _ _ _ _ ho.r_lt ho.g_lt ho.b_lt (packRgb_toNat o ho)
  obtain ⟨hnr, hng, hnb⟩ := hn
  obtain ⟨hor, hog, hob⟩ := ho
  refine unpackRgb_toNat _ _ _ _ (by omega) (by omega) (by omega) ?_
  rw [blendPacked, BitVec.toNat_add, hnew, hold]
  omega

/-! ## One pixel store (R240, R241) -/

theorem byteChannels_readPixel (m : Memory) (f : PixelFormat) (a : Nat) : ByteChannels (readPixel m f a) := by
  have hbyte (b : Byte) : (byteWord b).toNat < 256 := by
    rw [byteWord_toNat]
    exact b.isLt
  exact ⟨hbyte _, hbyte _, hbyte _⟩

/-- The channels a store writes (R240). -/
theorem storedPixel_toNat (e : Scan) (m : Memory) (a : Nat) (p : Rgb) (hp : ByteChannels p) :
    (storedPixel e m a p).r.toNat =
        storedByte e.monitor.blend p.r.toNat (readByte m (a + e.format.rOff)).toNat ∧
      (storedPixel e m a p).g.toNat =
        storedByte e.monitor.blend p.g.toNat (readByte m (a + e.format.gOff)).toNat ∧
      (storedPixel e m a p).b.toNat =
        storedByte e.monitor.blend p.b.toNat (readByte m (a + e.format.bOff)).toNat := by
  have hblend := unpackRgb_blendPacked p _ hp (byteChannels_readPixel m e.format a)
  have hplain := unpackRgb_toNat _ _ _ _ hp.r_lt hp.g_lt hp.b_lt (packRgb_toNat p hp)
  simp only [readPixel, byteWord_toNat] at hblend
  unfold storedPixel storedByte
  split
  · exact hblend
  · exact hplain

theorem storedByte_lt (blend : Bool) (new old : Nat) (hn : new < 256) (ho : old < 256) :
    storedByte blend new old < 256 := by
  unfold storedByte
  split <;> omega

/-- The three bytes a store leaves (R240, R241). -/
theorem readByte_storePixel (e : Scan) (m : Memory) (a : Nat) (p : Rgb) (hp : ByteChannels p)
    (ha : a + e.format.bytes ≤ addressSpace) (hm : memoryWf m = true) :
    (readByte (storePixel e m a p) (a + e.format.rOff)).toNat =
        storedByte e.monitor.blend p.r.toNat (readByte m (a + e.format.rOff)).toNat ∧
      (readByte (storePixel e m a p) (a + e.format.gOff)).toNat =
        storedByte e.monitor.blend p.g.toNat (readByte m (a + e.format.gOff)).toNat ∧
      (readByte (storePixel e m a p) (a + e.format.bOff)).toNat =
        storedByte e.monitor.blend p.b.toNat (readByte m (a + e.format.bOff)).toNat := by
  obtain ⟨-, -, -, hrg, hrb, hgb⟩ := offsets_sound e.format
  obtain ⟨hr, hg, hb⟩ := storedPixel_toNat e m a p hp
  have hlow (v : Word) (n : Nat) (old : Byte) (hn : n < 256) (hv : v.toNat = storedByte e.monitor.blend n old.toNat) :
      (v.setWidth 8 : Byte).toNat = storedByte e.monitor.blend n old.toNat := by
    rw [BitVec.toNat_setWidth, hv, Nat.mod_eq_of_lt (storedByte_lt _ _ _ hn old.isLt)]
  refine ⟨?_, ?_, ?_⟩ <;> rw [storePixel, readByte_writePixel _ _ _ _ _ ha hm]
  · rw [if_pos rfl]
    exact hlow _ _ _ hp.r_lt hr
  · rw [if_neg (by omega), if_pos rfl]
    exact hlow _ _ _ hp.g_lt hg
  · rw [if_neg (by omega), if_neg (by omega), if_pos rfl]
    exact hlow _ _ _ hp.b_lt hb

/-- A store leaves the same pixel in two memories that hold the same pixel before it (R240). -/
theorem readByte_storePixel_congr (e : Scan) (m m' : Memory) (a o : Nat) (p : Rgb) (ho : o < e.format.bytes)
    (ha : a + e.format.bytes ≤ addressSpace) (hm : memoryWf m = true) (hm' : memoryWf m' = true)
    (hsame : ∀ k < e.format.bytes, readByte m' (a + k) = readByte m (a + k)) :
    readByte (storePixel e m' a p) (a + o) = readByte (storePixel e m a p) (a + o) := by
  obtain ⟨hr, hg, hb, -⟩ := offsets_sound e.format
  have hpixel : storedPixel e m' a p = storedPixel e m a p := by
    simp only [storedPixel, readPixel, hsame _ hr, hsame _ hg, hsame _ hb]
  rw [storePixel, storePixel, hpixel, readByte_writePixel _ _ _ _ _ ha hm', readByte_writePixel _ _ _ _ _ ha hm,
    hsame o ho]

/-! ## One pixel (R238, R239) -/

/-- The weights of R238 over the integers. -/
theorem interpolate_toInt (p : Word) (a b : Yiq) :
    let mix (u v : Word) (shift : Nat) : Int :=
      wrap32 (u.toInt * (4095 - p.toInt % 4096)) / 2 ^ shift + wrap32 (v.toInt * (p.toInt % 4096)) / 2 ^ shift
    (interpolate p a b).y.toInt = wrap32 (mix a.y b.y 2) ∧ (interpolate p a b).i.toInt = wrap32 (mix a.i b.i 14) ∧
      (interpolate p a b).q.toInt = wrap32 (mix a.q b.q 14) := by
  have hright := fraction_toInt p
  have hleft : (0xfff - (p &&& 0xfff)).toInt = 4095 - p.toInt % 4096 := by
    rw [sub_toInt_of_nonneg _ _ (by decide) (by omega), hright]
    rfl
  simp only [interpolate, BitVec.toInt_add, asr_toInt, BitVec.toInt_mul, hleft, hright, wrap32, and_self]

/-- One channel of R239 over the integers. -/
theorem channel_toInt (contrast v : Word) :
    (channel contrast v).toInt = max 0 (min 255 (wrap32 (v.toInt / 2 ^ 12 * contrast.toInt) / 2 ^ 8)) := by
  rw [channel, clamp_toInt _ _ _ (by decide), asr_toInt, BitVec.toInt_mul, asr_toInt]
  rfl

/-- What is wrapped once more need not be wrapped before (R22). -/
theorem wrap32_combination (y i q ci cq : Int) :
    wrap32 (wrap32 y + ci * wrap32 i + cq * wrap32 q) = wrap32 (y + ci * i + cq * q) := by
  have hterm (x c v : Int) : wrap32 (x + c * wrap32 v) = wrap32 (x + c * v) := by
    unfold wrap32
    rw [← Int.add_bmod_bmod, Int.mul_bmod_bmod, Int.add_bmod_bmod]
  rw [hterm, add_right_comm, hterm, add_right_comm, add_assoc]
  exact Int.bmod_add_bmod.trans (congrArg wrap32 (add_assoc _ _ _).symm)

/-- A channel is `channelValue` when its input is the combination of R239 by the factors `ci` and `cq`. -/
theorem channel_interpolate_toInt (contrast p v : Word) (ci cq : Int) (a b : Yiq)
    (hv : v.toInt = wrap32 ((interpolate p a b).y.toInt + ci * (interpolate p a b).i.toInt +
      cq * (interpolate p a b).q.toInt)) :
    (channel contrast v).toInt = channelValue contrast.toInt ci cq a b p.toInt := by
  obtain ⟨hy, hi, hq⟩ := interpolate_toInt p a b
  rw [channel_toInt, hv, hy, hi, hq, wrap32_combination, channelValue]

/-- The three channels of a pixel over the integers (R238, R239). -/
theorem yiqToRgb_toInt (contrast p : Word) (a b : Yiq) :
    (yiqToRgb contrast (interpolate p a b)).r.toInt = channelValue contrast.toInt 3879 2556 a b p.toInt ∧
      (yiqToRgb contrast (interpolate p a b)).g.toInt = channelValue contrast.toInt (-1126) (-2605) a b p.toInt ∧
      (yiqToRgb contrast (interpolate p a b)).b.toInt = channelValue contrast.toInt (-4530) 7021 a b p.toInt := by
  refine ⟨channel_interpolate_toInt _ _ _ _ _ _ _ ?_, channel_interpolate_toInt _ _ _ _ _ _ _ ?_,
    channel_interpolate_toInt _ _ _ _ _ _ _ ?_⟩
  · simp [wrap32, BitVec.toInt_add, BitVec.toInt_mul]
  · simp [wrap32, ← sub_eq_add_neg, BitVec.toInt_sub, BitVec.toInt_mul]
  · simp [wrap32, ← sub_eq_add_neg, BitVec.toInt_add, BitVec.toInt_sub, BitVec.toInt_mul]

/-- The channels of R239 are clamped to a byte. -/
theorem channel_byte (contrast v : Word) :
    (channel contrast v).toNat < 256 ∧ ((channel contrast v).toNat : Int) = (channel contrast v).toInt := by
  obtain ⟨h0, h1⟩ := clamp_bounds (asr (asr v 12 * contrast) 8) 0 255 (by decide)
  have hlo : 0 ≤ (channel contrast v).toInt := h0
  have hhi : (channel contrast v).toInt ≤ 255 := h1
  have hcond := BitVec.toInt_eq_toNat_cond (channel contrast v)
  split at hcond <;> omega

theorem byteChannels_yiqToRgb (contrast : Word) (p : Yiq) : ByteChannels (yiqToRgb contrast p) :=
  ⟨(channel_byte _ _).1, (channel_byte _ _).1, (channel_byte _ _).1⟩

/-- The pixel of a position over the integers (R237 to R239). -/
theorem pixelAt_toNat (e : Scan) (line : Nat) (lb : Array Yiq) (px : Nat) (p : Word) :
    let value (ci cq : Int) : Int := channelValue e.monitor.contrast.toInt ci cq
      (lineEntry e line px 0 lb (p.toInt / 4096)) (lineEntry e line px 1 lb (p.toInt / 4096 + 1)) p.toInt
    ((pixelAt e line lb px p).r.toNat : Int) = value 3879 2556 ∧
      ((pixelAt e line lb px p).g.toNat : Int) = value (-1126) (-2605) ∧
      ((pixelAt e line lb px p).b.toNat : Int) = value (-4530) 7021 := by
  have hk : (asr p 12).toInt = p.toInt / 4096 := asr_toInt p 12
  obtain ⟨hr, hg, hb⟩ := yiqToRgb_toInt e.monitor.contrast p (lineEntry e line px 0 lb (p.toInt / 4096))
    (lineEntry e line px 1 lb (p.toInt / 4096 + 1))
  simp only [pixelAt, hk]
  exact ⟨(channel_byte _ _).2.trans hr, (channel_byte _ _).2.trans hg, (channel_byte _ _).2.trans hb⟩

/-! ## One row (R237, R310) -/

/-- The position of pixel `k` of a row (R237). -/
def rowPosition (w : Window) (k : Nat) : Word := w.scanL + wordOf k * w.dx

theorem rowPosition_succ (w : Window) (k : Nat) : rowPosition w (k + 1) = rowPosition w k + w.dx := by
  have hword : wordOf (k + 1) = wordOf k + 1 := BitVec.ofNat_add ..
  rw [rowPosition, rowPosition, hword, BitVec.add_mul, one_mul, BitVec.add_assoc]

theorem rowPosition_toInt (w : Window) (k : Nat) :
    (rowPosition w k).toInt = wrap32 (w.scanL.toInt + k * w.dx.toInt) := by
  have hword : wordOf k = BitVec.ofInt 32 k := (BitVec.ofInt_natCast 32 k).symm
  simp only [rowPosition, hword, wrap32, BitVec.toInt_add, BitVec.toInt_mul, BitVec.toInt_ofInt, Int.bmod_mul_bmod,
    Int.add_bmod_bmod]

/-- The store of pixel `k` of the row that starts at `addr` (R237 to R241). -/
def storeColumn (e : Scan) (line : Nat) (lb : Array Yiq) (w : Window) (addr k : Nat) (m : Memory) : Memory :=
  storePixel e m (addr + k * e.format.bytes) (pixelAt e line lb k (rowPosition w k))

/-- The resampling loop stores the pixels before the first whose position is not left of `scanR` (R237). -/
theorem resample_eq_loop (e : Scan) (line : Nat) (lb : Array Yiq) (w : Window) (addr fuel px stop : Nat) (m : Memory)
    (hstop : stop ≤ fuel) (hleft : ∀ k, k < px + stop → (rowPosition w k).toInt < w.scanR.toInt)
    (hend : stop < fuel → w.scanR.toInt ≤ (rowPosition w (px + stop)).toInt) :
    resample e line lb w fuel px (rowPosition w px) (addr + px * e.format.bytes) m =
      loop (storeColumn e line lb w addr) stop px m := by
  induction fuel generalizing px stop m with
  | zero =>
    obtain rfl : stop = 0 := by omega
    rfl
  | succ fuel ih =>
    cases stop with
    | zero =>
      have hright := hend (Nat.succ_pos fuel)
      rw [Nat.add_zero] at hright
      rw [resample, if_neg (by omega)]
      rfl
    | succ stop =>
      have hnext : px + (stop + 1) = px + 1 + stop := by omega
      rw [hnext] at hleft hend
      rw [resample, if_pos (hleft px (by omega)), ← rowPosition_succ, Nat.add_assoc, ← Nat.succ_mul, loop_succ]
      exact ih (px + 1) stop _ (by omega) hleft fun h => hend (by omega)

/-- What stands in memory when the first `n` pixels of a row are stored: each as if it were stored alone, and no other
byte changed. -/
structure StoredColumns (e : Scan) (line : Nat) (lb : Array Yiq) (w : Window) (addr : Nat) (m : Memory) (n : Nat)
    (m' : Memory) : Prop where
  canonical : memoryWf m' = true
  stored : ∀ k < n, ∀ o < e.format.bytes, readByte m' (addr + k * e.format.bytes + o) =
    readByte (storeColumn e line lb w addr k m) (addr + k * e.format.bytes + o)
  kept : ∀ x, x < addr ∨ addr + n * e.format.bytes ≤ x → readByte m' x = readByte m x

section
variable {e : Scan} {line : Nat} {lb : Array Yiq} {w : Window} {addr : Nat} {m : Memory}

theorem storedColumns_zero (hm : memoryWf m = true) : StoredColumns e line lb w addr m 0 m :=
  ⟨hm, fun _ hk => absurd hk (Nat.not_lt_zero _), fun _ _ => rfl⟩

/-- The next pixel (R237). -/
theorem storedColumns_succ {n : Nat} {m' : Memory} (haddr : addr + (n + 1) * e.format.bytes ≤ addressSpace)
    (hm : memoryWf m = true) (h : StoredColumns e line lb w addr m n m') :
    StoredColumns e line lb w addr m (n + 1) (storeColumn e line lb w addr n m') := by
  have hsucc : (n + 1) * e.format.bytes = n * e.format.bytes + e.format.bytes := Nat.succ_mul ..
  have houtside (x : Nat) (hx : x < addr + n * e.format.bytes ∨ addr + (n + 1) * e.format.bytes ≤ x) :
      readByte (storeColumn e line lb w addr n m') x = readByte m' x :=
    readByte_writePixel_outside _ _ _ _ _ (by omega)
  refine ⟨memoryWf_writePixel _ _ _ _ (by omega) h.canonical, fun k hk o ho => ?_, fun x hx => ?_⟩
  · rcases Nat.lt_succ_iff_lt_or_eq.mp hk with hk | rfl
    · have hbefore : (k + 1) * e.format.bytes ≤ n * e.format.bytes := Nat.mul_le_mul_right _ hk
      rw [Nat.succ_mul] at hbefore
      rw [houtside _ (by omega), h.stored k hk o ho]
    · exact readByte_storePixel_congr e m m' _ o _ ho (by omega) hm h.canonical fun j _ => h.kept _ (by omega)
  · rw [houtside x (by omega), h.kept x (by omega)]

/-- The row after its first `stop` pixels (R237). -/
theorem storedColumns_loop (stop : Nat) (haddr : addr + stop * e.format.bytes ≤ addressSpace) (hm : memoryWf m = true) :
    StoredColumns e line lb w addr m stop (loop (storeColumn e line lb w addr) stop 0 m) :=
  loop_rule _ (StoredColumns e line lb w addr m) stop 0 m (storedColumns_zero hm) fun n m' hn h => by
    have hrow : (n + 1) * e.format.bytes ≤ stop * e.format.bytes := Nat.mul_le_mul_right _ hn
    rw [Nat.zero_add]
    exact storedColumns_succ (by omega) hm h

/-- The row a resampling loop leaves: the pixels before `stop`, the first whose position is not left of `scanR` or the
end of the row (R237). -/
theorem storedColumns_resample (n stop : Nat) (haddr : addr + stop * e.format.bytes ≤ addressSpace) (hm : memoryWf m = true)
    (hstop : stop ≤ n) (hleft : ∀ k < stop, (rowPosition w k).toInt < w.scanR.toInt)
    (hend : stop < n → w.scanR.toInt ≤ (rowPosition w stop).toInt) :
    StoredColumns e line lb w addr m stop (resample e line lb w n 0 w.scanL addr m) := by
  have hloop := resample_eq_loop e line lb w addr n 0 stop m hstop (by rwa [Nat.zero_add]) (by rwa [Nat.zero_add])
  have hstart : rowPosition w 0 = w.scanL := by simp [rowPosition, wordOf]
  rw [hstart, Nat.zero_mul, Nat.add_zero] at hloop
  rw [hloop]
  exact storedColumns_loop stop haddr hm

end

/-- Settles O50: the loop stores the pixels before `stop`, each as if alone, and each store leaves the channels of
R239 or their blend. -/
theorem resampleStoresEveryPixel : Obligations.ResampleStoresEveryPixel := by
  intro e line lb w n stop addr m code hm hcode size position haddr hstop hleft hend m' entry new leaves
  obtain ⟨hbytes, hr, hg, hb⟩ := pixelFormat?_offsets code e.format hcode
  have hsize : size = e.format.bytes := hbytes.symm
  have hposition (k : Nat) : (rowPosition w k).toInt = position k := rowPosition_toInt w k
  have hrow : stop * e.format.bytes ≤ n * size := hsize ▸ Nat.mul_le_mul_right _ hstop
  have hstored : StoredColumns e line lb w addr m stop m' :=
    storedColumns_resample n stop (by unfold addressSpace; omega) hm hstop
      (fun k hk => (hposition k).trans_lt (hleft k hk)) fun h => (hend h).trans_eq (hposition stop).symm
  refine ⟨fun k hk => ?_, fun x hx => hstored.kept x (by rw [← hsize]; exact hx)⟩
  have hpixel : k * e.format.bytes + e.format.bytes ≤ stop * e.format.bytes := by
    rw [← Nat.succ_mul]
    exact Nat.mul_le_mul_right _ hk
  have hentry (side : Nat) (i : Int) : entry k side i = lineEntry e line k side lb i := by
    unfold entry lineEntry
    split <;> rfl
  have hvalue := pixelAt_toNat e line lb k (rowPosition w k)
  simp only [hposition, ← hentry] at hvalue
  obtain ⟨hvr, hvg, hvb⟩ := hvalue
  obtain ⟨hor, hog, hob, -⟩ := offsets_sound e.format
  obtain ⟨hsr, hsg, hsb⟩ := readByte_storePixel e m (addr + k * e.format.bytes) (pixelAt e line lb k (rowPosition w k))
    (byteChannels_yiqToRgb _ _) (by unfold addressSpace; omega) hm
  rw [hvr] at hsr
  rw [hvg] at hsg
  rw [hvb] at hsb
  rw [← hr, ← hg, ← hb]
  simp only [leaves, hsize]
  exact ⟨(congrArg BitVec.toNat (hstored.stored k hk _ hor)).trans hsr,
    (congrArg BitVec.toNat (hstored.stored k hk _ hog)).trans hsg,
    (congrArg BitVec.toNat (hstored.stored k hk _ hob)).trans hsb⟩

end Sys2Proof.Machine
end

section
/-! What MODULATE reads and where it paints, over the integers (R84 to R88, R183 to R188, R196 to R198). -/

namespace Sys2Proof.Machine

open Sys2Proof.Claims

/-! ## The destination rectangle (R185 to R187) -/

theorem avBeg_le (c : Config) : avBeg c ≤ 1000 := by
  rw [avBeg, ns2pos, lineNs]
  rcases hres_cases c with h | h <;> rw [h] <;> decide

/-- `destw` over the integers (R185). -/
theorem destWidth_toInt (c : Config) (t : Settings) : (destWidth c t).toInt = rectWidth c t := by
  have hlen := avLen_cases c
  have hfactor : (55500 : Word).toInt = 55500 := rfl
  unfold destWidth rectWidth
  split
  · rw [smin_toInt, avLen_toInt]
  · rw [asr_toInt, mul_toInt _ _ (by rw [avLen_toInt, hfactor]; constructor <;> omega), avLen_toInt, hfactor]
    rfl

/-- `desth` over the integers (R185). -/
theorem destHeight_toInt (t : Settings) : (destHeight t).toInt = rectHeight t := by
  have hlines : (wordOf activeLines).toInt = 240 := rfl
  unfold destHeight rectHeight
  split
  · rw [smin_toInt, hlines]
  · decide

theorem rectWidth_range (c : Config) (t : Settings) (hw : 1 ≤ t.w.toInt) :
    1 ≤ rectWidth c t ∧ rectWidth c t ≤ avLen c := by
  have hlen := avLen_cases c
  unfold rectWidth
  split <;> omega

theorem rectHeight_range (t : Settings) (hh : 1 ≤ t.h.toInt) : 1 ≤ rectHeight t ∧ rectHeight t ≤ 240 := by
  unfold rectHeight
  split <;> omega

/-- `xo` over the integers (R187). -/
theorem destX_toInt (c : Config) (t : Settings) (hw : 1 ≤ t.w.toInt) (h0 : -65536 ≤ t.xoffset.toInt)
    (h1 : t.xoffset.toInt ≤ 65536) : (destX c t).toInt = rectX c t := by
  have hlen := avLen_cases c
  have hbeg := avBeg_le c
  have hbeg' : (wordOf (avBeg c)).toInt = avBeg c := wordOf_toInt _ (by omega)
  have h2 : (2 : Word).toInt = 2 := rfl
  have h4 : (wordOf ccSamples).toInt = 4 := rfl
  obtain ⟨hw0, hw1⟩ := rectWidth_range c t hw
  have hsub : (wordOf (avLen c) - destWidth c t).toInt = (avLen c : Int) - rectWidth c t := by
    rw [sub_toInt_of_nonneg _ _ (by rw [avLen_toInt]; omega) (by rw [destWidth_toInt]; omega), avLen_toInt,
      destWidth_toInt]
  have hmargin : (tdiv (wordOf (avLen c) - destWidth c t) 2).toInt = ((avLen c : Int) - rectWidth c t).tdiv 2 := by
    rw [tdiv_toInt_of_pos _ _ (by decide), hsub, h2]
  obtain ⟨hm0, hm1⟩ := tdiv_range ((avLen c : Int) - rectWidth c t) 2 400 (by decide) (by omega) (by omega)
  have hoffset : (wordOf (avBeg c) + t.xoffset).toInt = (avBeg c : Int) + t.xoffset.toInt := by
    rw [add_toInt _ _ (by rw [hbeg']; constructor <;> omega), hbeg']
  have hxo : (wordOf (avBeg c) + t.xoffset + tdiv (wordOf (avLen c) - destWidth c t) 2).toInt =
      (avBeg c : Int) + t.xoffset.toInt + ((avLen c : Int) - rectWidth c t).tdiv 2 := by
    rw [add_toInt _ _ (by rw [hoffset, hmargin]; constructor <;> omega), hoffset, hmargin]
  have hmod := posmod_toInt (wordOf (avBeg c) + t.xoffset + tdiv (wordOf (avLen c) - destWidth c t) 2)
    (wordOf ccSamples) (by decide) (by decide)
  rw [hxo, h4] at hmod
  unfold destX rectX
  dsimp only
  rw [sub_toInt _ _ (by rw [hmod, hxo]; constructor <;> omega), hmod, hxo]

/-- `yo` over the integers (R187). -/
theorem destY_toInt (t : Settings) (hh : 1 ≤ t.h.toInt) (h0 : -65536 ≤ t.yoffset.toInt)
    (h1 : t.yoffset.toInt ≤ 65536) : (destY t).toInt = rectY t := by
  have hlines : (wordOf activeLines).toInt = 240 := rfl
  have htop : (wordOf topLine).toInt = 21 := rfl
  have h2 : (2 : Word).toInt = 2 := rfl
  obtain ⟨hh0, hh1⟩ := rectHeight_range t hh
  have hsub : (wordOf activeLines - destHeight t).toInt = 240 - rectHeight t := by
    rw [sub_toInt_of_nonneg _ _ (by decide) (by rw [destHeight_toInt]; omega), hlines, destHeight_toInt]
  have hmargin : (tdiv (wordOf activeLines - destHeight t) 2).toInt = (240 - rectHeight t).tdiv 2 := by
    rw [tdiv_toInt_of_pos _ _ (by decide), hsub, h2]
  obtain ⟨hm0, hm1⟩ := tdiv_range (240 - rectHeight t) 2 120 (by decide) (by omega) (by omega)
  have hoffset : (wordOf topLine + t.yoffset).toInt = 21 + t.yoffset.toInt := by
    rw [add_toInt _ _ (by rw [htop]; constructor <;> omega), htop]
  rw [destY, add_toInt _ _ (by rw [hoffset, hmargin]; constructor <;> omega), hoffset, hmargin, rectY]

/-- What the entry checks of R186 establish of the source's size and of the rectangle. -/
structure RectFits (c : Config) (t : Settings) : Prop where
  source_w : 1 ≤ t.w.toInt ∧ t.w.toInt ≤ 32767
  source_h : 1 ≤ t.h.toInt ∧ t.h.toInt ≤ 32767
  x_eq : (destX c t).toInt = rectX c t
  y_eq : (destY t).toInt = rectY t
  columns : 0 ≤ rectX c t ∧ rectX c t + rectWidth c t ≤ hres c
  rows : 0 ≤ rectY t ∧ rectY t + rectHeight t ≤ 262

theorem rectFits_of_operandsOk {c : Config} {t : Settings} (h : ModulateOperandsOk c t) : RectFits c t := by
  obtain ⟨hw0, hw1, hh0, hh1, hx0, hx1, hy0, hy1, hcol0, hcol1, hrow0, hrow1⟩ := h
  exact ⟨⟨hw0, hw1⟩, ⟨hh0, hh1⟩, destX_toInt c t hw0 hx0 hx1, destY_toInt t hh0 hy0 hy1, ⟨hcol0, hcol1⟩,
    ⟨hrow0, hrow1⟩⟩

/-! ## The entry checks (R186) -/

theorem columnsOk_of_rectFits {c : Config} {t : Settings} (h : RectFits c t) : columnsOk c (destRect c t) = true := by
  have hlen := hres_cases c
  obtain ⟨h0, h1⟩ := h.columns
  obtain ⟨hw0, _⟩ := rectWidth_range c t h.source_w.1
  have hx := h.x_eq
  have hw := destWidth_toInt c t
  have hend : (destX c t + destWidth c t).toInt = rectX c t + rectWidth c t := by
    rw [add_toInt _ _ (by rw [hx, hw]; constructor <;> omega), hx, hw]
  simp only [columnsOk, destRect, hx, hend, Bool.and_eq_true, decide_eq_true_eq]
  exact ⟨h0, h1⟩

theorem rowsOk_of_rectFits {c : Config} {t : Settings} (h : RectFits c t) : rowsOk (destRect c t) = true := by
  obtain ⟨h0, h1⟩ := h.rows
  obtain ⟨hh0, _⟩ := rectHeight_range t h.source_h.1
  have hy := h.y_eq
  have hh := destHeight_toInt t
  have hend : (destY t + destHeight t).toInt = rectY t + rectHeight t := by
    rw [add_toInt _ _ (by rw [hy, hh]; constructor <;> omega), hy, hh]
  simp only [rowsOk, destRect, hy, hend, vres, Bool.and_eq_true, decide_eq_true_eq]
  exact ⟨h0, h1⟩

/-- A region every byte of which is `Admitted` passes the platform's check (R82). -/
theorem admits_of_admitted (rs : List Region) (a n : Nat) (h : Admitted rs a n) : admits rs a n = true :=
  (admits_iff rs a n).mpr ⟨h.1, fun x h0 h1 => (inRegions_iff rs x).mpr (h.2 x h0 h1)⟩

theorem regionBytes_eq_sourceBytes (t : Settings) (f : PixelFormat) (hf : pixelFormat? t.format = some f)
    (hw : 0 ≤ t.w.toInt) (hh : 0 ≤ t.h.toInt) : regionBytes t.w t.h f.bytes = sourceBytes t := by
  rw [regionBytes, sourceBytes, Int.toNat_mul hw hh, (pixelFormat?_offsets t.format f hf).1]
  rfl

/-- The checks of R186 find no cause where MODULATE is ready. -/
theorem modulateCheck_eq_none (s : State) (f : PixelFormat) (hf : pixelFormat? s.settings.format = some f)
    (hok : ModulateOperandsOk s.cfg s.settings)
    (hmem : Admitted s.readable s.settings.data.toNat (sourceBytes s.settings)) : modulateCheck s f.bytes = none := by
  have hfits := rectFits_of_operandsOk hok
  have hcolumns := columnsOk_of_rectFits hfits
  have hrows := rowsOk_of_rectFits hfits
  obtain ⟨hw0, hw1, hh0, hh1, hx0, hx1, hy0, hy1, -⟩ := hok
  have hbytes := regionBytes_eq_sourceBytes s.settings f hf (by omega) (by omega)
  have hspace : ¬ addressSpace < s.settings.data.toNat + sourceBytes s.settings := Nat.not_lt.mpr hmem.1
  have hadmits := admits_of_admitted _ _ _ hmem
  simp [modulateCheck, dimOk, maxDim, offsetOk, hw0, hw1, hh0, hh1, hx0, hx1, hy0, hy1, hcolumns, hrows, hbytes, hspace,
    hadmits]

/-- The format of a code with bytes per pixel (R124, R125). -/
theorem exists_pixelFormat?_of_bytesPerPixel (code : Word) (h : bytesPerPixel code.toInt ≠ 0) :
    ∃ f, pixelFormat? code = some f := by
  have hrange : 0 ≤ code.toInt ∧ code.toInt ≤ 5 := by
    unfold bytesPerPixel at h
    split_ifs at h <;> omega
  have hcode : code.toInt = 0 ∨ code.toInt = 1 ∨ code.toInt = 2 ∨ code.toInt = 3 ∨ code.toInt = 4 ∨
      code.toInt = 5 := by omega
  rcases hcode with hk | hk | hk | hk | hk | hk <;> rw [eq_ofInt_of_toInt code _ hk] <;> exact ⟨_, rfl⟩

/-- A MODULATE that is ready lays out and paints its field (R182). -/
theorem exec_modulate_of_ready (s t : State) (h : ModulateReady s) (he : exec .modulate s = .next t) :
    ∃ f, pixelFormat? s.settings.format = some f ∧ t = answered 0 0 (modulateField f (initIirs s)) := by
  obtain ⟨hinit, hbytes, hok, hmem⟩ := h
  obtain ⟨f, hf⟩ := exists_pixelFormat?_of_bytesPerPixel _ hbytes
  have hcheck := modulateCheck_eq_none s f hf hok hmem
  have hexec : exec .modulate s = .next (answered 0 0 (modulateField f (initIirs s))) := by
    simp [exec, execModulate, needsInit, hinit, hf, hcheck, respondOk]
  rw [hexec] at he
  exact ⟨f, hf, (Host.Outcome.next.inj he).symm⟩

/-! ## The source of a sample (R84, R87, R196 to R198) -/

theorem rowOfSource_range (t : Settings) (y : Nat) (hh : 1 ≤ t.h.toInt) :
    0 ≤ rowOfSource t y ∧ rowOfSource t y ≤ t.h.toInt - 1 := by
  obtain ⟨hd, -⟩ := rectHeight_range t hh
  have hrow : 0 ≤ (y : Int) * t.h.toInt / rectHeight t :=
    Int.ediv_nonneg (mul_nonneg (by omega) (by omega)) (by omega)
  have hfield : 0 ≤ ((if t.field then t.h.toInt else 0) + rectHeight t) / rectHeight t :=
    Int.ediv_nonneg (by split <;> omega) (by omega)
  unfold rowOfSource
  dsimp only
  omega

/-- A destination coordinate scaled to the source, `tdiv(n * size, dest)`, over the integers (R196, R197). -/
theorem scaled_toInt (n : Nat) (size dest : Word) (hn : n ≤ 755) (h0 : 1 ≤ size.toInt) (h1 : size.toInt ≤ 32767)
    (hd : 1 ≤ dest.toInt) : (tdiv (wordOf n * size) dest).toInt = n * size.toInt / dest.toInt ∧
      0 ≤ (n : Int) * size.toInt / dest.toInt ∧ (n : Int) * size.toInt / dest.toInt ≤ 755 * 32767 := by
  have hword : (wordOf n).toInt = n := wordOf_toInt n (by omega)
  have hprod0 : 0 ≤ (n : Int) * size.toInt := mul_nonneg (by omega) (by omega)
  have hprod1 : (n : Int) * size.toInt ≤ 755 * 32767 := mul_le_mul (by omega) h1 (by omega) (by decide)
  have hprod : (wordOf n * size).toInt = n * size.toInt := by
    rw [mul_toInt _ _ (by rw [hword]; constructor <;> omega), hword]
  refine ⟨?_, Int.ediv_nonneg hprod0 (by omega), (Int.ediv_le_self _ hprod0).trans hprod1⟩
  rw [tdiv_toInt_of_nonneg _ _ (by omega) (by omega), hprod]

/-- The row offset of a field over the integers (R196). -/
theorem sourceFieldOffset_toInt (t : Settings) (h0 : 1 ≤ t.h.toInt) (h1 : t.h.toInt ≤ 32767) :
    let offset := ((if t.field then t.h.toInt else 0) + rectHeight t) / rectHeight t / 2
    (tdiv (tdiv (bit t.field * t.h + destHeight t) (destHeight t)) 2).toInt = offset ∧ 0 ≤ offset ∧ offset ≤ 16503 := by
  have h2 : (2 : Word).toInt = 2 := rfl
  have hd := destHeight_toInt t
  obtain ⟨hd0, hd1⟩ := rectHeight_range t h0
  have hrows : (bit t.field * t.h).toInt = if t.field then t.h.toInt else 0 := by
    cases t.field
    · exact congrArg BitVec.toInt BitVec.zero_mul
    · exact congrArg BitVec.toInt (BitVec.one_mul _)
  have hrows_range : 0 ≤ (if t.field then t.h.toInt else 0) ∧ (if t.field then t.h.toInt else 0) ≤ 32767 := by
    split <;> omega
  have hsum : (bit t.field * t.h + destHeight t).toInt = (if t.field then t.h.toInt else 0) + rectHeight t := by
    rw [add_toInt _ _ (by rw [hrows, hd]; constructor <;> omega), hrows, hd]
  have hquot0 : 0 ≤ ((if t.field then t.h.toInt else 0) + rectHeight t) / rectHeight t :=
    Int.ediv_nonneg (by omega) (by omega)
  have hquot1 : ((if t.field then t.h.toInt else 0) + rectHeight t) / rectHeight t ≤ 33007 :=
    (Int.ediv_le_self _ (by omega)).trans (by omega)
  have hquot : (tdiv (bit t.field * t.h + destHeight t) (destHeight t)).toInt =
      ((if t.field then t.h.toInt else 0) + rectHeight t) / rectHeight t := by
    rw [tdiv_toInt_of_nonneg _ _ (by omega) (by omega), hsum, hd]
  intro offset
  refine ⟨?_, by omega, by omega⟩
  rw [tdiv_toInt_of_nonneg _ _ (by omega) (by decide), hquot, h2]

/-- The source row over the integers (R196). -/
theorem sourceRow_toInt (t : Settings) (y : Nat) (h0 : 1 ≤ t.h.toInt) (h1 : t.h.toInt ≤ 32767) (hy : y ≤ 240) :
    (sourceRow t (destHeight t) y).toInt = rowOfSource t y := by
  have hone : (1 : Word).toInt = 1 := rfl
  have hd := destHeight_toInt t
  obtain ⟨hd0, -⟩ := rectHeight_range t h0
  obtain ⟨hrow, hrow0, hrow1⟩ := scaled_toInt y t.h (destHeight t) (by omega) h0 h1 (by omega)
  obtain ⟨hoffset, hoffset0, hoffset1⟩ := sourceFieldOffset_toInt t h0 h1
  have hsum := add_toInt (tdiv (wordOf y * t.h) (destHeight t))
    (tdiv (tdiv (bit t.field * t.h + destHeight t) (destHeight t)) 2) (by rw [hrow, hoffset]; constructor <;> omega)
  rw [hrow, hoffset, hd] at hsum
  unfold sourceRow rowOfSource
  dsimp only
  split
  · rw [sub_toInt_of_nonneg _ _ (by omega) (by decide), hone]
    omega
  · rw [hsum]
    omega

/-- The source column over the integers (R197). -/
theorem sourceColumn_toInt (c : Config) (t : Settings) (x : Nat) (h0 : 1 ≤ t.w.toInt) (h1 : t.w.toInt ≤ 32767)
    (hx : (x : Int) < rectWidth c t) : (sourceColumn t (destWidth c t) x).toInt = columnOfSource c t x := by
  have hlen := avLen_cases c
  have hd := destWidth_toInt c t
  obtain ⟨hd0, hd1⟩ := rectWidth_range c t h0
  obtain ⟨hcolumn, -⟩ := scaled_toInt x t.w (destWidth c t) (by omega) h0 h1 (by omega)
  rw [sourceColumn, hcolumn, hd, columnOfSource]

theorem columnOfSource_range (c : Config) (t : Settings) (x : Nat) (hw : 1 ≤ t.w.toInt)
    (hx : (x : Int) < rectWidth c t) : 0 ≤ columnOfSource c t x ∧ columnOfSource c t x < t.w.toInt := by
  refine ⟨Int.ediv_nonneg (mul_nonneg (by omega) (by omega)) (by omega), ?_⟩
  refine Int.ediv_lt_of_lt_mul (by omega) ?_
  rw [mul_comm]
  exact mul_lt_mul_of_pos_left hx (by omega)

/-- A byte of a source row's own cells is the byte of memory (R87, R197). -/
theorem readByte_sourceRowBytes (e : Paint) (sy cx o : Nat) (hcx : cx < natOf e.settings.w) (ho : o < e.format.bytes) :
    readByte (sourceRowBytes e sy) (sourceAddr e.settings e.format.bytes sy cx + o) =
      readByte e.mem (sourceAddr e.settings e.format.bytes sy cx + o) := by
  have hpixel : (cx + 1) * e.format.bytes ≤ natOf e.settings.w * e.format.bytes := Nat.mul_le_mul_right _ hcx
  rw [Nat.succ_mul] at hpixel
  have haddr : sourceAddr e.settings e.format.bytes sy cx =
      sourceAddr e.settings e.format.bytes sy 0 + cx * e.format.bytes := by
    simp only [sourceAddr, Nat.add_mul, Nat.add_zero, Nat.add_assoc]
  exact readByte_window _ _ _ _ (by omega) (by omega)

/-- R198 for channels that are bytes: no product and no sum wraps. -/
theorem rgbToYiq_eq_yiqOf (p : Rgb) (hp : ByteChannels p) : rgbToYiq p = yiqOf p.r.toNat p.g.toNat p.b.toNat := by
  obtain ⟨hr, hg, hb⟩ := hp
  have hint (v : Word) (hv : v.toNat < 256) : v.toInt = v.toNat := BitVec.toInt_eq_toNat_of_lt (by omega)
  have hr' := hint p.r hr
  have hg' := hint p.g hg
  have hb' := hint p.b hb
  have hy : (19595 * p.r + 38470 * p.g + 7471 * p.b).toInt =
      19595 * (p.r.toNat : Int) + 38470 * p.g.toNat + 7471 * p.b.toNat := by
    rw [← wrap32_of_fits (_ + _) ⟨by omega, by omega⟩]
    simp [wrap32, BitVec.toInt_add, BitVec.toInt_mul, hr', hg', hb']
  have hi : (39059 * p.r - 18022 * p.g - 21103 * p.b).toInt =
      39059 * (p.r.toNat : Int) - 18022 * p.g.toNat - 21103 * p.b.toNat := by
    rw [← wrap32_of_fits (_ - _) ⟨by omega, by omega⟩]
    simp [wrap32, BitVec.toInt_sub, BitVec.toInt_mul, hr', hg', hb']
  have hq : (13894 * p.r - 34275 * p.g + 20382 * p.b).toInt =
      13894 * (p.r.toNat : Int) - 34275 * p.g.toNat + 20382 * p.b.toNat := by
    rw [← wrap32_of_fits (_ + _) ⟨by omega, by omega⟩]
    simp [wrap32, BitVec.toInt_add, BitVec.toInt_sub, BitVec.toInt_mul, hr', hg', hb']
  rw [rgbToYiq, yiqOf, asr_eq_ofInt, asr_eq_ofInt, asr_eq_ofInt, hy, hi, hq]

/-- The pixel step 6 reads for a sample of the rectangle, in YIQ (R84, R196 to R198). -/
theorem rgbToYiq_readPixel_eq_sourceYiq (s : State) (f : PixelFormat) (hf : pixelFormat? s.settings.format = some f)
    (h : RectFits s.cfg s.settings) (x y : Nat) (hx : (x : Int) < rectWidth s.cfg s.settings) (hy : y ≤ 240) :
    rgbToYiq (readPixel (sourceRowBytes (paintOf s f) (natOf (sourceRow s.settings (destHeight s.settings) y))) f
      (sourceAddr s.settings f.bytes (natOf (sourceRow s.settings (destHeight s.settings) y))
        (natOf (sourceColumn s.settings (destWidth s.cfg s.settings) x)))) = sourceYiq s y x := by
  obtain ⟨hbytes, hr, hg, hb⟩ := pixelFormat?_offsets _ f hf
  obtain ⟨hor, hog, hob, -⟩ := offsets_sound f
  obtain ⟨hc0, hc1⟩ := columnOfSource_range s.cfg s.settings x h.source_w.1 hx
  have hrow : natOf (sourceRow s.settings (destHeight s.settings) y) = (rowOfSource s.settings y).toNat :=
    congrArg Int.toNat (sourceRow_toInt s.settings y h.source_h.1 h.source_h.2 hy)
  have hcolumn : natOf (sourceColumn s.settings (destWidth s.cfg s.settings) x) =
      (columnOfSource s.cfg s.settings x).toNat :=
    congrArg Int.toNat (sourceColumn_toInt s.cfg s.settings x h.source_w.1 h.source_w.2 hx)
  have hbyte (o : Nat) (ho : o < f.bytes) := readByte_sourceRowBytes (paintOf s f) (rowOfSource s.settings y).toNat
    (columnOfSource s.cfg s.settings x).toNat o (by simp only [paintOf, natOf]; omega) ho
  simp only [paintOf] at hbyte
  rw [hrow, hcolumn, rgbToYiq_eq_yiqOf _ (byteChannels_readPixel _ _ _)]
  simp only [readPixel, byteWord_toNat, paintOf, hbyte _ hor, hbyte _ hog, hbyte _ hob, sourceYiq, ← hr, ← hg, ← hb,
    ← hbytes]
  rfl

end Sys2Proof.Machine
end

section
/-! O32: the picture of MODULATE (R189, R196 to R201). -/

namespace Sys2Proof.Machine

open Sys2Proof.Claims

/-! ## The level of a sample (R188, R199, R200) -/

/-- The sign of the chroma over the integers (R188). -/
theorem phase_toInt (c : Config) (t : Settings) :
    (burstInverted c t → (phase c t).toInt = -1) ∧ (¬ burstInverted c t → (phase c t).toInt = 1) := by
  have hinv : burstInverted c t ↔ inverted c t = true := by simp [inverted, invPhase, burstInverted]
  rw [hinv, phase]
  refine ⟨fun h => ?_, fun h => ?_⟩
  · rw [if_pos h]
    rfl
  · rw [if_neg h]
    rfl

/-- The left edge of the rectangle is a multiple of 4, so a column has its own carrier phase (R187, R199). -/
theorem rowAt_carrierPhase (row : BurstRow) (xo : Word) (x : Nat) (hx : x < 1000) (h0 : 0 ≤ xo.toInt)
    (h1 : xo.toInt ≤ 1000) (h4 : xo.toInt % 4 = 0) :
    rowAt row (natOf (posmod (wordOf x + xo) (wordOf ccSamples))) = rowAt row x := by
  have hword : (wordOf x).toInt = x := wordOf_toInt x (by omega)
  have hfour : (wordOf ccSamples).toInt = 4 := rfl
  have hsum : (wordOf x + xo).toInt = x + xo.toInt := by
    rw [add_toInt _ _ (by rw [hword]; constructor <;> omega), hword]
  have hphase : natOf (posmod (wordOf x + xo) (wordOf ccSamples)) = x % 4 := by
    rw [natOf, posmod_toInt _ _ (by decide) (by decide), hsum, hfour]
    omega
  rw [hphase]
  simp only [rowAt, Nat.mod_mod]

/-- A chroma term of R199 over the integers. -/
theorem chromaTerm_toInt (h ph carrier : Word) :
    (asr (h * ph * carrier) 4).toInt = wrap32 (h.toInt * ph.toInt * carrier.toInt) / 2 ^ 4 := by
  simp only [asr_toInt, BitVec.toInt_mul, wrap32, Int.bmod_mul_bmod]

/-- The level of R200 over the integers. -/
theorem ireLevel_toInt (blackPoint whitePoint : Word) (p : Yiq) : (ireLevel blackPoint whitePoint p).toInt =
    max 0 (min 110 (wrap32 (7 + blackPoint.toInt +
      wrap32 ((p.y.toInt + (p.i.toInt + p.q.toInt)) * (wrap32 (100 * whitePoint.toInt)).tdiv 100) / 2 ^ 10))) := by
  have h7 : blackLevel.toInt = 7 := rfl
  have h100 : whiteLevel.toInt = 100 := rfl
  have hgain : (tdiv (whiteLevel * whitePoint) 100).toInt = (wrap32 (100 * whitePoint.toInt)).tdiv 100 := by
    rw [tdiv_toInt_of_pos _ _ (by decide), BitVec.toInt_mul, h100]
    rfl
  have hscaled : (asr ((p.y + p.i + p.q) * tdiv (whiteLevel * whitePoint) 100) 10).toInt =
      wrap32 ((p.y.toInt + (p.i.toInt + p.q.toInt)) * (wrap32 (100 * whitePoint.toInt)).tdiv 100) / 2 ^ 10 := by
    rw [asr_toInt, BitVec.toInt_mul, hgain, BitVec.toInt_add, BitVec.toInt_add, Int.bmod_add_bmod, Int.bmod_mul_bmod,
      add_assoc]
    rfl
  rw [ireLevel, clamp_toInt _ _ _ (by decide), BitVec.toInt_add, hscaled, BitVec.toInt_add, h7, Int.bmod_add_bmod]
  rfl

/-- The level step 6 paints at a column is `pictureLevel` of the filters after that column (R199, R200). -/
theorem ireLevel_remodulate_toInt (s : State) (f : PixelFormat) (g : Iirs) (x : Nat)
    (h : RectFits s.cfg s.settings) (hx : (x : Int) < rectWidth s.cfg s.settings) :
    (ireLevel s.monitor.blackPoint s.monitor.whitePoint (remodulate (paintOf s f) g x)).toInt = pictureLevel s g x := by
  have hlen := hres_cases s.cfg
  have hxo := h.x_eq
  obtain ⟨hcol0, hcol1⟩ := h.columns
  have h4 : rectX s.cfg s.settings % 4 = 0 := by
    unfold rectX
    dsimp only
    omega
  have hcarrier (row : BurstRow) := rowAt_carrierPhase row (destX s.cfg s.settings) x (by omega) (by omega) (by omega)
    (by omega)
  obtain ⟨hneg, hpos⟩ := phase_toInt s.cfg s.settings
  rw [ireLevel_toInt, pictureLevel]
  simp only [remodulate, paintOf, destRect, hcarrier, chromaTerm_toInt]
  by_cases hinv : burstInverted s.cfg s.settings
  · rw [if_pos hinv, hneg hinv]
  · rw [if_neg hinv, hpos hinv]

/-! ## The low-passes (R51, R183, R196, R199) -/

/-- The coefficients of a fresh settings bank (R161, R183). -/
theorem iirInit_values : iirInit lFreq yFreq = { c := 1233, h := 0 } ∧ iirInit lFreq iFreq = { c := 574, h := 0 } ∧
    iirInit lFreq qFreq = { c := 232, h := 0 } := by decide

/-- Step 1 leaves the low-passes the field is filtered with (R183). -/
theorem initIirs_eq_modulateCoeffs (s : State) :
    ({ y := (initIirs s).iirY, i := (initIirs s).iirI, q := (initIirs s).iirQ } : Iirs) = modulateCoeffs s := by
  obtain ⟨hy, hi, hq⟩ := iirInit_values
  rw [initIirs_iirY, initIirs_iirI, initIirs_iirQ, hy, hi, hq, modulateCoeffs]
  split <;> rfl

/-- A row keeps the coefficients (R163, R199). -/
theorem iirsReset_filteredRow (coeffs : Iirs) (s : State) (y n : Nat) :
    iirsReset (filteredRow coeffs s y n) = iirsReset coeffs := by
  induction n with
  | zero => rfl
  | succ n ih => exact ih

/-! ## The places of the samples (R200) -/

section
variable {c : Config} {t : Settings} (h : RectFits c t)
include h

theorem RectFits.rect_nat : natOf (destX c t) + natOf (destWidth c t) ≤ hres c ∧
    natOf (destY t) + natOf (destHeight t) ≤ vres := by
  obtain ⟨hcol0, hcol1⟩ := h.columns
  obtain ⟨hrow0, hrow1⟩ := h.rows
  obtain ⟨hw0, _⟩ := rectWidth_range c t h.source_w.1
  obtain ⟨hh0, _⟩ := rectHeight_range t h.source_h.1
  rw [natOf, natOf, natOf, natOf, h.x_eq, h.y_eq, destWidth_toInt, destHeight_toInt, vres]
  omega

/-- Every sample of the rectangle lies in the field (R186). -/
theorem RectFits.paintIndex_lt (x y : Nat) (hx : x < natOf (destWidth c t)) (hy : y < natOf (destHeight t)) :
    paintIndex c (destRect c t) x y < fieldSize c := by
  obtain ⟨hcolumns, hrows⟩ := h.rect_nat
  have hlines : (y + natOf (destY t) + 1) * hres c ≤ vres * hres c := Nat.mul_le_mul_right _ (by omega)
  rw [Nat.succ_mul] at hlines
  simp only [paintIndex, destRect, fieldSize, Nat.mul_comm (hres c)]
  omega

/-- Samples of different rows are different (R200). -/
theorem RectFits.paintIndex_ne (x x' y y' : Nat) (hx : x < natOf (destWidth c t)) (hy : y < y') :
    paintIndex c (destRect c t) x y ≠ paintIndex c (destRect c t) x' y' := by
  obtain ⟨hcolumns, -⟩ := h.rect_nat
  have hlines : (y + natOf (destY t) + 1) * hres c ≤ (y' + natOf (destY t)) * hres c :=
    Nat.mul_le_mul_right _ (by omega)
  rw [Nat.succ_mul] at hlines
  simp only [paintIndex, destRect]
  omega

end

/-! ## One row (R196 to R201) -/

/-- What stands in the field and in the low-passes when the first `n` samples of row `y` are painted over `old`. -/
structure PaintedRow (s : State) (coeffs : Iirs) (y : Nat) (old : Buffer) (n : Nat) (acc : Buffer × Iirs) : Prop where
  filters : acc.2 = filteredRow coeffs s y n
  size : acc.1.size = old.size
  painted : ∀ x < n, (sample acc.1 (paintIndex s.cfg (destRect s.cfg s.settings) x y)).toInt =
    pictureLevel s (filteredRow coeffs s y (x + 1)) x
  kept : ∀ j, (∀ x < n, paintIndex s.cfg (destRect s.cfg s.settings) x y ≠ j) → sample acc.1 j = sample old j

section
variable {s : State} {f : PixelFormat} (hf : pixelFormat? s.settings.format = some f) (h : RectFits s.cfg s.settings)
include hf h

/-- One sample: the filters take its pixel, and its place takes the level (R197 to R200). -/
theorem paintPixel_eq (coeffs : Iirs) (b : Buffer) (x y : Nat) (hx : x < natOf (destWidth s.cfg s.settings))
    (hy : y < natOf (destHeight s.settings)) :
    paintPixel (paintOf s f)
        (sourceRowBytes (paintOf s f) (natOf (sourceRow s.settings (destHeight s.settings) y)))
        (natOf (sourceRow s.settings (destHeight s.settings) y)) y x (b, filteredRow coeffs s y x) =
      (putSample b (paintIndex s.cfg (destRect s.cfg s.settings) x y) (ireLevel s.monitor.blackPoint
        s.monitor.whitePoint (remodulate (paintOf s f) (filteredRow coeffs s y (x + 1)) x)),
        filteredRow coeffs s y (x + 1)) := by
  have hw := destWidth_toInt s.cfg s.settings
  have hh := destHeight_toInt s.settings
  obtain ⟨hh0, hh1⟩ := rectHeight_range s.settings h.source_h.1
  unfold natOf at hx hy
  have hpixel := rgbToYiq_readPixel_eq_sourceYiq s f hf h x y (by omega) (by omega)
  have hstep : filteredRow coeffs s y (x + 1) = iirsStep (filteredRow coeffs s y x) (sourceYiq s y x) := rfl
  rw [hstep, ← hpixel]
  rfl

theorem paintedRow_succ {coeffs : Iirs} {old : Buffer} {y n : Nat} {acc : Buffer × Iirs}
    (hold : old.size = fieldSize s.cfg) (hn : n < natOf (destWidth s.cfg s.settings))
    (hy : y < natOf (destHeight s.settings)) (hacc : PaintedRow s coeffs y old n acc) :
    PaintedRow s coeffs y old (n + 1) (paintPixel (paintOf s f)
      (sourceRowBytes (paintOf s f) (natOf (sourceRow s.settings (destHeight s.settings) y)))
      (natOf (sourceRow s.settings (destHeight s.settings) y)) y n acc) := by
  obtain ⟨b, g⟩ := acc
  obtain ⟨rfl, hsize, hpainted, hkept⟩ := hacc
  rw [paintPixel_eq hf h coeffs b n y hn hy]
  have hplace := h.paintIndex_lt n y hn hy
  refine ⟨rfl, (size_putSample ..).trans hsize, fun x hx => ?_, fun j hj => ?_⟩
  · rcases Nat.lt_succ_iff_lt_or_eq.mp hx with hx | rfl
    · rw [sample_putSample_ne _ _ _ _ (by simp only [paintIndex]; omega)]
      exact hpainted x hx
    · obtain ⟨hl0, hl1⟩ := analogLevel_ireLevel s.monitor.blackPoint s.monitor.whitePoint
        (remodulate (paintOf s f) (filteredRow coeffs s y (x + 1)) x)
      have hw := destWidth_toInt s.cfg s.settings
      unfold natOf at hn
      rw [sample_putSample, if_pos ⟨rfl, by simp only at hsize; omega⟩, sext8_setWidth _ (by omega) (by omega)]
      exact ireLevel_remodulate_toInt s f _ x h (by omega)
  · rw [sample_putSample_ne _ _ _ _ (hj n (Nat.lt_succ_self n))]
    exact hkept j fun x hx => hj x (Nat.lt_succ_of_lt hx)

/-- A whole row, from the low-passes any row before it left (R196, R201). -/
theorem paintRow_painted (coeffs : Iirs) (y : Nat) (acc : Buffer × Iirs) (hy : y < natOf (destHeight s.settings))
    (hsize : acc.1.size = fieldSize s.cfg) (hcoeffs : iirsReset acc.2 = iirsReset coeffs) :
    PaintedRow s coeffs y acc.1 (natOf (destWidth s.cfg s.settings)) (paintRow (paintOf s f) y acc) := by
  have hstart : PaintedRow s coeffs y acc.1 0 (acc.1, iirsReset acc.2) :=
    ⟨hcoeffs, rfl, fun _ hx => absurd hx (Nat.not_lt_zero _), fun _ _ => rfl⟩
  refine loop_rule _ (PaintedRow s coeffs y acc.1) _ 0 _ hstart fun n x hn hx => ?_
  rw [Nat.zero_add]
  exact paintedRow_succ hf h hsize hn hy hx

/-! ## All rows (R196) -/

/-- What stands in the field when the first `n` rows are painted, each filtered from zero history. -/
structure PaintedRows (s : State) (coeffs : Iirs) (n : Nat) (acc : Buffer × Iirs) : Prop where
  filters : iirsReset acc.2 = iirsReset coeffs
  size : acc.1.size = fieldSize s.cfg
  painted : ∀ y < n, ∀ x < natOf (destWidth s.cfg s.settings),
    (sample acc.1 (paintIndex s.cfg (destRect s.cfg s.settings) x y)).toInt =
      pictureLevel s (filteredRow coeffs s y (x + 1)) x

theorem paintedRows_succ {coeffs : Iirs} {n : Nat} {acc : Buffer × Iirs} (hn : n < natOf (destHeight s.settings))
    (hacc : PaintedRows s coeffs n acc) : PaintedRows s coeffs (n + 1) (paintRow (paintOf s f) n acc) := by
  have hrow := paintRow_painted hf h coeffs n acc hn hacc.size hacc.filters
  refine ⟨?_, hrow.size.trans hacc.size, fun y hy x hx => ?_⟩
  · rw [hrow.filters, iirsReset_filteredRow]
  · rcases Nat.lt_succ_iff_lt_or_eq.mp hy with hy | rfl
    · rw [hrow.kept _ fun x' _ => (h.paintIndex_ne x x' y n hx hy).symm]
      exact hacc.painted y hy x hx
    · exact hrow.painted x hx

theorem paintRows_painted (coeffs : Iirs) (b : Buffer) (hb : b.size = fieldSize s.cfg) :
    PaintedRows s coeffs (natOf (destHeight s.settings)) (paintRows (paintOf s f) (b, coeffs)) := by
  have hstart : PaintedRows s coeffs 0 (b, coeffs) := ⟨rfl, hb, fun _ hy => absurd hy (Nat.not_lt_zero _)⟩
  refine loop_rule _ (PaintedRows s coeffs) _ 0 _ hstart fun n x hn hx => ?_
  rw [Nat.zero_add]
  exact paintedRows_succ hf h hn hx

end

/-! ## The command (R182) -/

@[simp] theorem size_burstLine (c : Config) (t : Settings) (table : BurstRow) (base : Nat) (acc : Buffer × BurstRow) :
    (burstLine c t table base acc).1.size = acc.1.size :=
  forRange_rule _ _ acc _ (fun x => x.1.size = acc.1.size) rfl fun _ _ _ _ hx => (size_putSample ..).trans hx

/-- The blanking layout keeps the size of the field (R190). -/
theorem size_layoutField (c : Config) (t : Settings) (b : Buffer) : (layoutField c t b).1.size = b.size := by
  refine forRange_rule 0 vres (b, zeroRow) _ (fun x => x.1.size = b.size) rfl fun n x _ _ hx => ?_
  unfold layoutLine
  dsimp only
  split
  · simp [equalizingLine, hx]
  · split
    · simp [vsyncLine, hx]
    · rw [size_burstLine, ← hx]
      unfold bodyLine
      dsimp only
      split <;> simp

/-- Step 6 does not read `S_IIRS_INIT`, the one setting step 1 writes (R183). -/
theorem paintRows_initIirs (s : State) (f : PixelFormat) (acc : Buffer × Iirs) :
    paintRows (paintOf (initIirs s) f) acc = paintRows (paintOf s f) acc := by
  have hpaint : paintOf (initIirs s) f = { paintOf s f with settings := { s.settings with iirsInit := true } } := by
    simp only [paintOf, initIirs_cfg, initIirs_settings, initIirs_mem, initIirs_monitor]
    rfl
  rw [hpaint]
  rfl

/-- Settles O32: step 6 paints the laid-out field with the low-passes of step 1. -/
theorem modulatePaintsThePicture : Obligations.ModulatePaintsThePicture := by
  intro s t hready hsize hexec x y hx hy
  obtain ⟨f, hf, rfl⟩ := exec_modulate_of_ready s t hready hexec
  obtain ⟨-, -, hok, -⟩ := hready
  have h := rectFits_of_operandsOk hok
  have hw := destWidth_toInt s.cfg s.settings
  have hh := destHeight_toInt s.settings
  have hlaid : (layoutField (initIirs s).cfg (initIirs s).settings (initIirs s).analog).1.size = fieldSize s.cfg := by
    rw [size_layoutField, initIirs_analog, hsize]
  have hpainted := (paintRows_painted hf h (modulateCoeffs s) _ hlaid).painted y (by unfold natOf; omega) x
    (by unfold natOf; omega)
  have hindex : paintIndex s.cfg (destRect s.cfg s.settings) x y =
      (x + (rectX s.cfg s.settings).toNat) + (y + (rectY s.settings).toNat) * hres s.cfg := by
    rw [paintIndex, natOf, natOf, destRect, h.x_eq, h.y_eq]
  rw [answered_analog, modulateField_analog, paintRows_initIirs, initIirs_eq_modulateCoeffs, ← hindex]
  exact hpainted

end Sys2Proof.Machine
end

section
/-! The encoding: legal headers, decode and encode, and what the port does with them (R111 to R119). -/

namespace Sys2Proof

open Sys2Proof.Claims

/-! ## Legal headers (R111, R115, R118) -/

/-- The opcodes of R115: which have a format, and which of those formats have a register field (R113). -/
theorem formatOf_cases (op : Nat) :
    ((op = 0 ∨ 10 ≤ op) ∧ formatOf op = none) ∨
    (1 ≤ op ∧ op ≤ 7 ∧ ∃ f, formatOf op = some f ∧ f.hasReg = false) ∨
    (8 ≤ op ∧ op ≤ 9 ∧ ∃ f, formatOf op = some f ∧ f.hasReg = true) := by
  rcases Nat.lt_or_ge op 10 with h | h
  · interval_cases op <;> simp [formatOf, Format.hasReg]
  · obtain ⟨k, rfl⟩ := Nat.exists_eq_add_of_le' h
    exact Or.inl ⟨Or.inr h, rfl⟩

/-- R118's legal headers are those whose opcode has a format and whose reserved bits are zero. -/
theorem not_illegalHeader_iff (hdr : Word) :
    ¬ IllegalHeader hdr ↔ ∃ f, formatOf (opcodeOf hdr) = some f ∧ reservedZero f hdr = true := by
  have hill : IllegalHeader hdr ↔ opcodeOf hdr = 0 ∨ 10 ≤ opcodeOf hdr ∨
      (opcodeOf hdr ≤ 7 ∧ imm24Of hdr ≠ 0) ∨
      (8 ≤ opcodeOf hdr ∧ opcodeOf hdr ≤ 9 ∧ imm24Of hdr / 2 ^ 8 ≠ 0) := Iff.rfl
  rw [hill]
  rcases formatOf_cases (opcodeOf hdr) with ⟨hop, hf⟩ | ⟨h1, h7, f, hf, hreg⟩ | ⟨h8, h9, f, hf, hreg⟩
  · exact iff_of_false (by omega) (by simp [hf])
  · have hz : (∃ f, formatOf (opcodeOf hdr) = some f ∧ reservedZero f hdr = true) ↔ imm24Of hdr = 0 := by
      simp [hf, reservedZero, hreg]
    rw [hz]
    omega
  · have hz : (∃ f, formatOf (opcodeOf hdr) = some f ∧ reservedZero f hdr = true) ↔ imm24Of hdr / 2 ^ 8 = 0 := by
      simp only [hf, Option.some.injEq, exists_eq_left', reservedZero, hreg, if_true, decide_eq_true_eq]
    rw [hz]
    omega

/-- A header is its two fields, where the bits between them are zero (R111). -/
theorem header_opcodeOf_regOf (hdr : Word) (h : imm24Of hdr < 2 ^ 8) : header (opcodeOf hdr) (regOf hdr) = hdr := by
  apply BitVec.eq_of_toNat_eq
  have hlt := hdr.isLt
  rw [header_toNat _ _ (by unfold opcodeOf; omega)]
  unfold imm24Of at h
  unfold opcodeOf regOf
  omega

/-- A legal header is that of its opcode and its register field; the field is zero in a format without one (R111). -/
theorem header_of_legal (hdr : Word) (f : Format) (hz : reservedZero f hdr = true) :
    header (opcodeOf hdr) (regOf hdr) = hdr ∧ (f.hasReg = false → regOf hdr = 0) := by
  have himm : regOf hdr = imm24Of hdr % 2 ^ 8 := by
    unfold regOf imm24Of
    omega
  unfold reservedZero at hz
  cases hreg : f.hasReg with
  | true =>
    rw [hreg, if_pos rfl, decide_eq_true_eq] at hz
    exact ⟨header_opcodeOf_regOf hdr (by omega), Bool.noConfusion⟩
  | false =>
    rw [hreg, if_neg Bool.false_ne_true, decide_eq_true_eq] at hz
    exact ⟨header_opcodeOf_regOf hdr (by omega), fun _ => by omega⟩

/-! ## The operand words (R112, R113, R119) -/

theorem operands_eq_operandCount (op : Nat) (f : Format) (hf : formatOf op = some f) : f.operands = operandCount op := by
  unfold formatOf at hf
  split at hf <;> cases hf <;> rfl

/-- With fewer words than the format has operands there is no command yet (R119). -/
theorem decodeOperands_of_lt (op reg : Nat) (ws : List Word) (f : Format) (hf : formatOf op = some f)
    (h : ws.length < f.operands) : decodeOperands op reg ws = .error .operandsMissing := by
  unfold decodeOperands
  split
  case h_10 => rfl
  all_goals
    cases hf
    simp only [Format.operands, List.length_cons] at h
    omega

/-- With as many words as the format has operands, or more, there is a command (R112, R113). -/
theorem decodeOperands_of_le (op reg : Nat) (ws : List Word) (f : Format) (hf : formatOf op = some f)
    (h : f.operands ≤ ws.length) : ∃ i rest, decodeOperands op reg ws = .ok (i, rest) := by
  unfold formatOf at hf
  match f, ws with
  | .z, rest | .r, rest => split at hf <;> cases hf <;> exact ⟨_, _, rfl⟩
  | .w1, _ :: rest | .rw, _ :: rest => split at hf <;> cases hf <;> exact ⟨_, _, rfl⟩
  | .w4, _ :: _ :: _ :: _ :: rest => split at hf <;> cases hf <;> exact ⟨_, _, rfl⟩

/-- The command that operand words give is well-formed, and with what it leaves its encoding is their header and
them, where the register field fits and is zero in a format without one (R111 to R113). -/
theorem encode_of_decodeOperands (op reg : Nat) (ws rest : List Word) (i : Instr) (f : Format)
    (hf : formatOf op = some f) (hlt : reg < 2 ^ 8) (hreg : f.hasReg = false → reg = 0)
    (h : decodeOperands op reg ws = .ok (i, rest)) : i.wf = true ∧ header op reg :: ws = encode i ++ rest := by
  unfold decodeOperands at h
  split at h <;> cases h
  case h_8 | h_9 => exact ⟨decide_eq_true hlt, rfl⟩
  all_goals
    cases hf
    cases hreg rfl
    exact ⟨rfl, rfl⟩

/-! ## Decode and encode (R117) -/

/-- A header that R118 calls illegal gives no command. -/
theorem decode_of_illegal (hdr : Word) (ws : List Word) (h : IllegalHeader hdr) :
    decode (hdr :: ws) = .error .illegalOpcode ∨ decode (hdr :: ws) = .error .reservedBits := by
  have hno : ¬ ∃ f, formatOf (opcodeOf hdr) = some f ∧ reservedZero f hdr = true :=
    fun hlegal => (not_illegalHeader_iff hdr).mpr hlegal h
  cases hf : formatOf (opcodeOf hdr) with
  | none => exact Or.inl (by simp [decode, hf])
  | some f =>
    have hz : ¬ reservedZero f hdr = true := fun hz => hno ⟨f, hf, hz⟩
    exact Or.inr (by simp [decode, hf, hz])

/-- Settles O4: the decoder is run on the nine written commands. -/
theorem writtenWordsDecode : Obligations.WrittenWordsDecode := by
  unfold Obligations.WrittenWordsDecode
  decide

/-- The header of a command decodes to what reading its operand words gives (R111, R117). -/
theorem decode_header (op reg : Nat) (ws : List Word) (f : Format) (hop : op < 256) (hf : formatOf op = some f)
    (hlt : reg < 2 ^ 8) (hreg : f.hasReg = false → reg = 0) :
    decode (header op reg :: ws) = decodeOperands op reg ws := by
  have hmod : reg % 2 ^ 8 = reg := Nat.mod_eq_of_lt hlt
  have hz : reservedZero f (header op reg) = true := by
    rw [reservedZero, imm24Of_header op reg hop, hmod]
    split
    · exact decide_eq_true (Nat.div_eq_of_lt hlt)
    · next h => exact decide_eq_true (hreg (Bool.eq_false_of_not_eq_true h))
  rw [decode_cons _ ws f (by rw [opcodeOf_header op reg hop, hf]) hz, opcodeOf_header op reg hop,
    regOf_header op reg hop, hmod]

/-- Settles O12: the header of each command has the command's format, so its operand words are read as written. -/
theorem decodeInvertsEncode : Obligations.DecodeInvertsEncode := by
  intro i rest hwf
  cases i with
  | init w h f b => exact decode_header 0x01 0 _ .w4 (by decide) rfl (by decide) fun _ => rfl
  | resize w h f b => exact decode_header 0x02 0 _ .w4 (by decide) rfl (by decide) fun _ => rfl
  | reset => exact decode_header 0x03 0 _ .z (by decide) rfl (by decide) fun _ => rfl
  | modulate => exact decode_header 0x04 0 _ .z (by decide) rfl (by decide) fun _ => rfl
  | demodulate noise => exact decode_header 0x05 0 _ .w1 (by decide) rfl (by decide) fun _ => rfl
  | bpp4fmt format => exact decode_header 0x06 0 _ .w1 (by decide) rfl (by decide) fun _ => rfl
  | sincos14 angle => exact decode_header 0x07 0 _ .w1 (by decide) rfl (by decide) fun _ => rfl
  | setctl reg value => exact decode_header 0x08 reg _ .rw (by decide) rfl (of_decide_eq_true hwf) Bool.noConfusion
  | getctl reg => exact decode_header 0x09 reg _ .r (by decide) rfl (of_decide_eq_true hwf) Bool.noConfusion

/-- Settles O13: accepted words start with a legal header, which is that of the command its operand words give. -/
theorem encodeInvertsDecode : Obligations.EncodeInvertsDecode := by
  intro ws rest i h
  cases ws with
  | nil => cases h
  | cons hdr ws =>
    have hlegal : ¬ IllegalHeader hdr := fun hill => by
      rcases decode_of_illegal hdr ws hill with he | he <;> cases he.symm.trans h
    obtain ⟨f, hf, hz⟩ := (not_illegalHeader_iff hdr).mp hlegal
    obtain ⟨hhdr, hreg⟩ := header_of_legal hdr f hz
    rw [decode_cons hdr ws f hf hz] at h
    have hlt : regOf hdr < 2 ^ 8 := Nat.mod_lt _ (by decide)
    have henc := encode_of_decodeOperands _ _ ws rest i f hf hlt hreg h
    rwa [hhdr] at henc

/-- A legal header and words enough give a command whose encoding starts with the header (R118). -/
theorem decode_of_legal (hdr : Word) (ws : List Word) (h : ¬ IllegalHeader hdr)
    (hlen : operandCount (opcodeOf hdr) ≤ ws.length) :
    ∃ i rest, decode (hdr :: ws) = .ok (i, rest) ∧ (encode i).headD 0 = hdr := by
  obtain ⟨f, hf, hz⟩ := (not_illegalHeader_iff hdr).mp h
  rw [← operands_eq_operandCount _ f hf] at hlen
  obtain ⟨i, rest, hops⟩ := decodeOperands_of_le _ (regOf hdr) ws f hf hlen
  have hd : decode (hdr :: ws) = .ok (i, rest) := (decode_cons hdr ws f hf hz).trans hops
  refine ⟨i, rest, hd, ?_⟩
  obtain ⟨-, hws⟩ := encodeInvertsDecode _ rest i hd
  have hhead := congrArg (List.headD · 0) hws
  cases i <;> exact hhead.symm

end Sys2Proof

namespace Sys2Proof.Machine

open Sys2Proof.Claims

/-! ## The register numbers (R49) -/

/-- The registers 0x00 to 0x1B, with the access column of R49. -/
theorem namedReg?_of_le (n : Nat) (hn : n ≤ 0x1B) :
    ∃ r, namedReg? n = some r ∧ (r.readOnly = false ↔ Claims.Writable n) := by
  unfold Claims.Writable
  interval_cases n <;> exact ⟨_, rfl, by decide⟩

theorem namedReg?_of_gt (n : Nat) (h : 0x1B < n) : namedReg? n = none := by
  obtain ⟨k, rfl⟩ := Nat.exists_eq_add_of_le' h
  rfl

/-- A number is unimplemented and has no register, or it has one, which SETCTL may write where R49 says so. -/
theorem ctlReg?_cases (c : Config) (n : Nat) :
    (¬ Implemented c n ∧ ctlReg? c n = none) ∨
    (∃ r, Implemented c n ∧ ctlReg? c n = some r ∧ (r.readOnly = false ↔ Claims.Writable n)) := by
  unfold Implemented ctlReg? ccSamples
  split
  · next hccf =>
    have hro : ¬ Claims.Writable n := by
      unfold Claims.Writable
      omega
    exact Or.inr ⟨_, Or.inr (by omega), rfl, iff_of_false Bool.noConfusion hro⟩
  · next hccf =>
    rcases Nat.lt_or_ge 0x1B n with hn | hn
    · exact Or.inl ⟨by omega, namedReg?_of_gt n hn⟩
    · obtain ⟨r, hr, hro⟩ := namedReg?_of_le n hn
      exact Or.inr ⟨r, Or.inl hn, hr, hro⟩

/-- An unimplemented number is refused by GETCTL and by SETCTL (R270, R271). -/
theorem exec_of_not_implemented (s : State) (reg : Nat) (v : Word) (h : ¬ Implemented s.cfg reg) :
    exec (.getctl reg) s = .next (faulted .illegalRegister s) ∧
      exec (.setctl reg v) s = .next (faulted .illegalRegister s) := by
  rcases ctlReg?_cases s.cfg reg with ⟨-, hn⟩ | ⟨-, himp, -⟩
  · simp [exec, execGetctl, execSetctl, hn, raiseFault]
  · exact absurd himp h

/-- SETCTL refuses a read-only register before it looks at the value (R270). -/
theorem exec_setctl_of_readOnly (s : State) (reg : Nat) (v : Word) (h : Implemented s.cfg reg)
    (hro : ¬ Claims.Writable reg) : exec (.setctl reg v) s = .next (faulted .illegalRegister s) := by
  rcases ctlReg?_cases s.cfg reg with ⟨hno, -⟩ | ⟨r, -, hr, hw⟩
  · exact absurd h hno
  · have hrro : r.readOnly = true := by simpa using mt hw.mp hro
    simp [exec, execSetctl, hr, setRegister, hrro, raiseFault]

/-! ## The port (R118, R119) -/

/-- An illegal header is consumed and faults; the words after it stay (R118). -/
theorem step_of_illegalHeader (s : State) (hdr : Word) (ws : List Word) (hreset : s.resetInput = false)
    (hfault : s.fault = 0) (hp : s.port = hdr :: ws) (h : IllegalHeader hdr) :
    step s = .next (faulted .illegalCommand (consume s ws)) := by
  rw [step, accept_eq_acceptCommand s hreset hfault, acceptCommand, hp]
  rcases decode_of_illegal hdr ws h with he | he <;> rw [he] <;> rfl

/-- Settles O6: illegal headers fault at the port, illegal registers in SETCTL and GETCTL, and a legal header
with four words after it has all its operands. -/
theorem illegalEncodingsFault : Obligations.IllegalEncodingsFault := by
  refine ⟨step_of_illegalHeader, exec_of_not_implemented, exec_setctl_of_readOnly, fun hdr w1 w2 w3 w4 h => ?_⟩
  have hcount : operandCount (opcodeOf hdr) ≤ 4 := by
    unfold operandCount
    split_ifs <;> omega
  exact decode_of_legal hdr [w1, w2, w3, w4] h hcount

/-- Settles O7: the decoder answers that operands are missing, and the port waits. -/
theorem missingOperandsLeaveTheBlockWaiting : Obligations.MissingOperandsLeaveTheBlockWaiting := by
  intro s hdr ws hreset hfault hp h hlen
  obtain ⟨f, hf, hz⟩ := (not_illegalHeader_iff hdr).mp h
  have hshort : ws.length < f.operands := (operands_eq_operandCount _ f hf).symm ▸ hlen
  have hd := (decode_cons hdr ws f hf hz).trans (decodeOperands_of_lt _ (regOf hdr) ws f hf hshort)
  rw [step, accept_eq_acceptCommand s hreset hfault, acceptCommand, hp, hd]

/-! ## The response (R116) -/

/-- No command stops the machine (R115). -/
theorem exec_completes (i : Instr) (s : State) : ∃ t, exec i s = .next t := by
  cases i with
  | init w h f b => rcases execInit_cases w h f b s with ⟨_, he⟩ | ⟨_, he⟩ <;> exact ⟨_, he⟩
  | resize w h f b =>
    rcases execResize_cases w h f b s with ⟨_, he⟩ | ⟨_, _, he⟩ | ⟨_, _, he⟩ <;> exact ⟨_, he⟩
  | reset => rcases execReset_cases s with ⟨_, he⟩ | ⟨_, he⟩ <;> exact ⟨_, he⟩
  | modulate =>
    rcases execModulate_cases s with ⟨_, he⟩ | ⟨_, _, he⟩ | ⟨_, _, _, _, _, he⟩ | ⟨_, _, _, _, he⟩ <;> exact ⟨_, he⟩
  | demodulate noise =>
    rcases execDemodulate_cases noise s with ⟨_, he⟩ | ⟨_, _, he⟩ | ⟨_, _, _, he⟩ | ⟨_, _, _, _, _, he⟩ |
      ⟨_, _, _, _, _, _, he⟩ <;> exact ⟨_, he⟩
  | bpp4fmt format => exact ⟨_, rfl⟩
  | sincos14 angle => exact ⟨_, rfl⟩
  | setctl reg v =>
    rcases execSetctl_cases reg v s with ⟨_, he⟩ | ⟨r, _, he⟩
    · exact ⟨_, he⟩
    · rcases setRegister_cases r v s with ⟨_, hr⟩ | ⟨_, _, _, hr⟩ | ⟨_, _, hr⟩ <;> exact ⟨_, he.trans hr⟩
  | getctl reg => rcases execGetctl_cases reg s with ⟨_, he⟩ | ⟨_, _, he⟩ <;> exact ⟨_, he⟩

/-- Settles O11: a command ends in a fault, whose result words are 0, or in an effect answered OK. -/
theorem everyCommandResponds : Obligations.EveryCommandResponds := by
  intro i s
  obtain ⟨t, he⟩ := exec_completes i s
  rcases exec_ends i s t he with ⟨c, rfl⟩ | ⟨r0, r1, u, -, rfl⟩
  · exact ⟨_, _, he, rfl, fun _ => ⟨rfl, rfl⟩⟩
  · exact ⟨_, _, he, rfl, fun hs => absurd rfl hs⟩

end Sys2Proof.Machine
end

section
/-! SINCOS14, the carrier tables and EXPX: the exact range and the symmetries of the sine over the integers, and what
they say of the words (R140 to R150, R189). -/

namespace Sys2Proof.Machine

open Sys2Proof.Claims

/-! ## The first quadrant and the half turn (R142, R143) -/

/-- The table of R141 does not fall before its last entry. -/
theorem sineTable_monotone : ∀ i < 16, 0 ≤ sineTable.getD i 0 ∧ sineTable.getD i 0 ≤ sineTable.getD (i + 1) 0 ∧
    sineTable.getD (i + 1) 0 ≤ 32768 := by decide

/-- An interpolated value lies between its two neighbours (R142). -/
theorem interpolation_between (a b f : Int) (hab : a ≤ b) (hf0 : 0 ≤ f) (hf1 : f < 256) :
    a ≤ a + (b - a) * f / 256 ∧ a + (b - a) * f / 256 ≤ b := by
  have h0 : 0 ≤ (b - a) * f := mul_nonneg (by omega) hf0
  have h1 : (b - a) * f ≤ (b - a) * 256 := mul_le_mul_of_nonneg_left hf1.le (by omega)
  omega

theorem sineFirstQuadrant_zero : sineFirstQuadrant 0 = 0 := by decide

theorem sineFirstQuadrant_4096 : sineFirstQuadrant 4096 = 32768 := by decide

/-- The quarter sine stays between its values at 0 and 4096, where it interpolates between rising entries. -/
theorem sineFirstQuadrant_within (n : Int) (h0 : 0 ≤ n) (h1 : n ≤ 4096) :
    0 ≤ sineFirstQuadrant n ∧ sineFirstQuadrant n ≤ 32768 := by
  rcases h1.lt_or_eq with h | rfl
  · have hi : (n / 256 + 1).toNat = (n / 256).toNat + 1 := by omega
    obtain ⟨ha, hab, hb⟩ := sineTable_monotone (n / 256).toNat (by omega)
    obtain ⟨hlo, hhi⟩ := interpolation_between _ _ (n % 256) hab (by omega) (by omega)
    simp only [sineFirstQuadrant, hi]
    omega
  · rw [sineFirstQuadrant_4096]
    decide

theorem sineCosineHalf_of_lt (h : Int) (h1 : h < 4096) :
    sineCosineHalf h = (sineFirstQuadrant h, sineFirstQuadrant (4096 - h)) := if_neg (by omega)

theorem sineCosineHalf_of_ge (h : Int) (h0 : 4096 ≤ h) :
    sineCosineHalf h = (sineFirstQuadrant (8192 - h), -sineFirstQuadrant (h - 4096)) := if_pos (by omega)

theorem sineCosineHalf_within (h : Int) (h0 : 0 ≤ h) (h1 : h < 8192) :
    (-32768 ≤ (sineCosineHalf h).1 ∧ (sineCosineHalf h).1 ≤ 32768) ∧
      -32768 ≤ (sineCosineHalf h).2 ∧ (sineCosineHalf h).2 ≤ 32768 := by
  rcases lt_or_ge h 4096 with hq | hq
  · have hs := sineFirstQuadrant_within h h0 hq.le
    have hc := sineFirstQuadrant_within (4096 - h) (by omega) (by omega)
    simp only [sineCosineHalf_of_lt h hq]
    omega
  · have hs := sineFirstQuadrant_within (8192 - h) (by omega) (by omega)
    have hc := sineFirstQuadrant_within (h - 4096) (by omega) (by omega)
    simp only [sineCosineHalf_of_ge h hq]
    omega

/-- The sine of a half turn reads the same from both ends. -/
theorem sineCosineHalf_fst_reflect (h : Int) : (sineCosineHalf (8192 - h)).1 = (sineCosineHalf h).1 := by
  rcases lt_trichotomy h 4096 with hq | rfl | hq
  · rw [sineCosineHalf_of_lt h hq, sineCosineHalf_of_ge _ (by omega), sub_sub_cancel]
  · rfl
  · rw [sineCosineHalf_of_ge h hq.le, sineCosineHalf_of_lt _ (by omega)]

/-- In the first quarter the cosine is the sine a quarter later. -/
theorem sineCosineHalf_snd_of_lt (h : Int) (h0 : 0 ≤ h) (h1 : h < 4096) :
    (sineCosineHalf h).2 = (sineCosineHalf (h + 4096)).1 := by
  rw [sineCosineHalf_of_lt h h1, sineCosineHalf_of_ge _ (by omega), show 8192 - (h + 4096) = 4096 - h by omega]

/-- In the second quarter the cosine is the negated sine of a quarter before. -/
theorem sineCosineHalf_snd_of_ge (h : Int) (h0 : 4096 ≤ h) (h1 : h < 8192) :
    (sineCosineHalf h).2 = -(sineCosineHalf (h - 4096)).1 := by
  rw [sineCosineHalf_of_ge h h0, sineCosineHalf_of_lt _ (by omega)]

/-! ## The whole turn over the integers (R143, R144) -/

theorem sineCosine_of_lt (n : Int) (h : n % 16384 < 8192) : sineCosine n = sineCosineHalf (n % 8192) := by
  rw [← Int.emod_emod_of_dvd n (by decide : (8192 : Int) ∣ 16384)]
  exact if_neg (by omega)

theorem sineCosine_of_ge (n : Int) (h : 8192 ≤ n % 16384) : sineCosine n = -sineCosineHalf (n % 8192) := by
  rw [← Int.emod_emod_of_dvd n (by decide : (8192 : Int) ∣ 16384)]
  exact if_pos (by omega)

theorem sineCosine_within (n : Int) : (-32768 ≤ (sineCosine n).1 ∧ (sineCosine n).1 ≤ 32768) ∧
    -32768 ≤ (sineCosine n).2 ∧ (sineCosine n).2 ≤ 32768 := by
  have h := sineCosineHalf_within (n % 8192) (by omega) (by omega)
  rcases lt_or_ge (n % 16384) 8192 with hn | hn
  · rwa [sineCosine_of_lt n hn]
  · rw [sineCosine_of_ge n hn, Prod.fst_neg, Prod.snd_neg]
    omega

/-- The sine and cosine read their angle modulo a whole turn (R144 (d)). -/
theorem sineCosine_congr {m n : Int} (h : m % 16384 = n % 16384) : sineCosine m = sineCosine n := by
  simp only [sineCosine, h]

/-- Half a turn later both values are negated (R144 (e)). -/
theorem sineCosine_add_half (n : Int) : sineCosine (n + 8192) = -sineCosine n := by
  have hh : (n + 8192) % 8192 = n % 8192 := Int.add_emod_right n 8192
  rcases lt_or_ge (n % 16384) 8192 with hn | hn
  · rw [sineCosine_of_lt n hn, sineCosine_of_ge _ (by omega), hh]
  · rw [sineCosine_of_ge n hn, sineCosine_of_lt _ (by omega), hh, neg_neg]

/-- The cosine is the sine a quarter of a turn later (R144 (c)). -/
theorem sineCosine_snd (n : Int) : (sineCosine n).2 = (sineCosine (n + 4096)).1 := by
  rcases lt_or_ge (n % 8192) 4096 with hq | hq
  · have hh : (n + 4096) % 8192 = n % 8192 + 4096 := by omega
    have hc := sineCosineHalf_snd_of_lt (n % 8192) (by omega) hq
    rcases lt_or_ge (n % 16384) 8192 with hn | hn
    · rw [sineCosine_of_lt n hn, sineCosine_of_lt (n + 4096) (by omega), hh, hc]
    · rw [sineCosine_of_ge n hn, sineCosine_of_ge (n + 4096) (by omega), hh, Prod.snd_neg, Prod.fst_neg, hc]
  · have hh : (n + 4096) % 8192 = n % 8192 - 4096 := by omega
    have hc := sineCosineHalf_snd_of_ge (n % 8192) hq (by omega)
    rcases lt_or_ge (n % 16384) 8192 with hn | hn
    · rw [sineCosine_of_lt n hn, sineCosine_of_ge (n + 4096) (by omega), hh, Prod.fst_neg, hc]
    · rw [sineCosine_of_ge n hn, sineCosine_of_lt (n + 4096) (by omega), hh, Prod.snd_neg, hc, neg_neg]

/-- The sine is odd (R144 (a)). -/
theorem sineCosine_neg_fst (n : Int) : (sineCosine (-n)).1 = -(sineCosine n).1 := by
  rcases eq_or_ne (n % 8192) 0 with h0 | h0
  · have hzero : (sineCosine n).1 = 0 := by
      rcases lt_or_ge (n % 16384) 8192 with hn | hn
      · rw [sineCosine_of_lt n hn, h0]
        rfl
      · rw [sineCosine_of_ge n hn, h0]
        rfl
    rw [sineCosine_congr (by omega : -n % 16384 = n % 16384), hzero, neg_zero]
  · have hh : -n % 8192 = 8192 - n % 8192 := by omega
    rcases lt_or_ge (n % 16384) 8192 with hn | hn
    · rw [sineCosine_of_lt n hn, sineCosine_of_ge (-n) (by omega), hh, Prod.fst_neg, sineCosineHalf_fst_reflect]
    · rw [sineCosine_of_ge n hn, sineCosine_of_lt (-n) (by omega), hh, Prod.fst_neg, neg_neg,
        sineCosineHalf_fst_reflect]

/-- The cosine is even (R144 (b)): the quadrature, the odd sine and the half turn give it. -/
theorem sineCosine_neg_snd (n : Int) : (sineCosine (-n)).2 = (sineCosine n).2 := by
  calc (sineCosine (-n)).2 = (sineCosine (-(n - 4096))).1 := by
        rw [sineCosine_snd, show -n + 4096 = -(n - 4096) by omega]
    _ = (-sineCosine (n - 4096)).1 := by rw [sineCosine_neg_fst, Prod.fst_neg]
    _ = (sineCosine (n + 4096)).1 := by rw [← sineCosine_add_half, show n - 4096 + 8192 = n + 4096 by omega]
    _ = (sineCosine n).2 := (sineCosine_snd n).symm

/-! ## SINCOS14 (R140, R143, R144) -/

theorem sincos14_fst_toInt (a : Word) : (sincos14 a).1.toInt = (sineCosine a.toInt).1 :=
  congrArg Prod.fst (sincos14_toInt a)

theorem sincos14_snd_toInt (a : Word) : (sincos14 a).2.toInt = (sineCosine a.toInt).2 :=
  congrArg Prod.snd (sincos14_toInt a)

/-- `sincos14` answers the two's-complement patterns of the integer sine and cosine (R140). -/
theorem sincos14_eq_ofInt (a : Word) :
    sincos14 a = (BitVec.ofInt 32 (sineCosine a.toInt).1, BitVec.ofInt 32 (sineCosine a.toInt).2) :=
  Prod.ext (eq_ofInt_of_toInt _ _ (sincos14_fst_toInt a)) (eq_ofInt_of_toInt _ _ (sincos14_snd_toInt a))

/-- The angle of a word may be read before it wraps, since a whole turn divides `2^32`. -/
theorem sincos14_ofInt (v : Int) :
    sincos14 (BitVec.ofInt 32 v) = (BitVec.ofInt 32 (sineCosine v).1, BitVec.ofInt 32 (sineCosine v).2) := by
  have hturn : (BitVec.ofInt 32 v).toInt % 16384 = v % 16384 := by
    rw [BitVec.toInt_ofInt, ← Int.emod_emod_of_dvd _ (by decide : (16384 : Int) ∣ (2 ^ 32 : Nat)), Int.bmod_emod,
      Int.emod_emod_of_dvd _ (by decide)]
  rw [sincos14_eq_ofInt, sineCosine_congr hturn]

/-- Settles O19: SINCOS14 answers `sincos14` of its operand, whose words are those of the integer rule. -/
theorem sincos14AnswersTheIntegerRule : Obligations.Sincos14AnswersTheIntegerRule := by
  intro a s
  have hexec : exec (.sincos14 a) s = .next { s with response := okResponse (sincos14 a).1 (sincos14 a).2 } := rfl
  rw [hexec, sincos14_eq_ofInt]

/-- R144 (a) to (e), by the same symmetries of the integer rule. -/
theorem sincos14_symmetries (a : Word) :
    (sincos14 a).1 + (sincos14 (-a)).1 = 0 ∧ (sincos14 a).2 = (sincos14 (-a)).2 ∧
      (sincos14 a).2 = (sincos14 (a + 4096)).1 ∧ sincos14 (a + 16384) = sincos14 a ∧
      sincos14 (a + 8192) = (-(sincos14 a).1, -(sincos14 a).2) := by
  obtain ⟨v, rfl⟩ : ∃ v, a = BitVec.ofInt 32 v := ⟨a.toInt, BitVec.ofInt_toInt.symm⟩
  have hquarter : BitVec.ofInt 32 v + 4096 = BitVec.ofInt 32 (v + 4096) := (BitVec.ofInt_add v 4096).symm
  have hhalf : BitVec.ofInt 32 v + 8192 = BitVec.ofInt 32 (v + 8192) := (BitVec.ofInt_add v 8192).symm
  have hturn : BitVec.ofInt 32 v + 16384 = BitVec.ofInt 32 (v + 16384) := (BitVec.ofInt_add v 16384).symm
  rw [← BitVec.ofInt_neg, hquarter, hhalf, hturn]
  simp only [sincos14_ofInt]
  refine ⟨?_, ?_, ?_, ?_, ?_⟩
  · rw [sineCosine_neg_fst, BitVec.ofInt_neg]
    exact BitVec.add_right_neg _
  · rw [sineCosine_neg_snd]
  · rw [sineCosine_snd]
  · rw [sineCosine_congr (Int.add_emod_right v 16384)]
  · rw [sineCosine_add_half, Prod.fst_neg, Prod.snd_neg, BitVec.ofInt_neg, BitVec.ofInt_neg]

/-- Settles O20: the symmetries of the integer rule hold of the words, and the four axes are computed. -/
theorem sincosSymmetries : Obligations.SincosSymmetries := by
  refine ⟨sincos14_symmetries, ?_⟩
  decide

/-- Settles O21: the words read as the integer sine and cosine, which interpolate within the table's range. -/
theorem sincosRange : Obligations.SincosRange := by
  intro a
  obtain ⟨⟨hs0, hs1⟩, hc0, hc1⟩ := sineCosine_within a.toInt
  rw [sincos14_fst_toInt, sincos14_snd_toInt]
  exact ⟨hs0, hs1, hc0, hc1⟩

/-! ## The carrier tables (R146, R189) -/

/-- An entry of a carrier table over the integers, where its angle does not wrap. -/
theorem carrierSine_toInt (hue offset : Word) (k : Nat) (hk : k < 4) (h0 : -200000 < hue.toInt)
    (h1 : hue.toInt < 200000) (ho0 : -90 ≤ offset.toInt) (ho1 : offset.toInt ≤ 90) : (carrierSine hue offset k).toInt =
      (sineCosine (((hue.toInt + k * 90 + offset.toInt) * 8192).tdiv 180)).1 / 1024 := by
  have h90 : (90 : Word).toInt = 90 := rfl
  have hword : (wordOf k).toInt = k := wordOf_toInt k (by omega)
  have hstep : (wordOf k * 90).toInt = k * 90 := by
    rw [mul_toInt _ _ (by rw [hword, h90]; constructor <;> omega), hword, h90]
  have hphase : (hue + wordOf k * 90).toInt = hue.toInt + k * 90 := by
    rw [add_toInt _ _ (by rw [hstep]; constructor <;> omega), hstep]
  have hdeg : (hue + wordOf k * 90 + offset).toInt = hue.toInt + k * 90 + offset.toInt := by
    rw [add_toInt _ _ (by rw [hphase]; constructor <;> omega), hphase]
  rw [carrierSine, asr_toInt, sincos14_fst_toInt, degrees_toInt _ (by omega) (by omega), hdeg]
  rfl

theorem rowAt_carrierTable_of_color (t : Settings) (offset : Word) (k : Nat) (hk : k < 4) (h : t.asColor = true) :
    rowAt (carrierTable t offset) k = carrierSine t.hue offset k := by
  rw [carrierTable, if_pos h, rowAt_mk]
  interval_cases k <;> rfl

/-- A monochrome carrier is zero (R189). -/
theorem rowAt_carrierTable_of_monochrome (t : Settings) (offset : Word) (k : Nat) (h : t.asColor = false) :
    rowAt (carrierTable t offset) k = 0 := by
  rw [carrierTable, h, if_neg Bool.false_ne_true, rowAt, zeroRow, Vector.getElem_replicate]

/-- Settles O35: the three tables are one rule with the offsets 33, 0 and -90. -/
theorem carrierTables : Obligations.CarrierTables := by
  intro t k hk h0 h1
  refine ⟨fun hcolor => ?_, fun hmono => ⟨?_, ?_, ?_⟩⟩
  · have hentry (offset : Word) (ho0 : -90 ≤ offset.toInt) (ho1 : offset.toInt ≤ 90) :
        (rowAt (carrierTable t offset) k).toInt =
          (sineCosine (((t.hue.toInt + k * 90 + offset.toInt) * 8192).tdiv 180)).1 / 1024 := by
      rw [rowAt_carrierTable_of_color t offset k hk hcolor, carrierSine_toInt _ _ k hk h0 h1 ho0 ho1]
    have hzero : (0 : Word).toInt = 0 := rfl
    have hmodI := hentry 0 (by decide) (by decide)
    rw [hzero, add_zero] at hmodI
    exact ⟨hentry 33 (by decide) (by decide), hmodI, hentry (-90) (by decide) (by decide)⟩
  all_goals exact rowAt_carrierTable_of_monochrome t _ k hmono

/-! ## EXPX (R147 to R150) -/

/-- Settles O22: the rule of R149 is run on the twenty listed arguments. -/
theorem expxValues : Obligations.ExpxValues := by
  unfold Obligations.ExpxValues
  decide

end Sys2Proof.Machine
end

section
/-! The filters: one IIR step and its approach to a constant input, one equalizer step, its rest and its silence, and
what INIT loads (R163 to R170, R261, R262). -/

namespace Sys2Proof.Machine

open Sys2Proof.Claims

/-! ## The IIR low-pass (R163, R164) -/

/-- One IIR step over the integers (R163): only the product is shifted. -/
theorem iirStep_h_toInt (f : Iir) (s : Word) : (iirStep f s).h.toInt =
    wrap32 (f.h.toInt + wrap32 ((s.toInt - f.h.toInt) * f.c.toInt) / 2048) := by
  rw [iirStep, BitVec.toInt_add, asr_toInt, BitVec.toInt_mul, BitVec.toInt_sub, Int.bmod_mul_bmod]
  rfl

/-- Settles O23: the coefficient is not written, and the history is the rule of R163. -/
theorem iirStepOverTheIntegers : Obligations.IirStepOverTheIntegers :=
  fun f s => ⟨iirStep_c f s, iirStep_h_toInt f s⟩

/-- A coefficient below one takes part of a negative distance, at least one and at most all of it (R164). -/
theorem fraction_of_neg (d c : Int) (hd : d < 0) (hc0 : 0 < c) (hc1 : c < 2048) :
    d ≤ d * c / 2048 ∧ d * c / 2048 < 0 := by
  have hneg : d * c < 0 := mul_neg_of_neg_of_pos hd hc0
  have hall : d * 2048 ≤ d * c := mul_le_mul_of_nonpos_left hc1.le hd.le
  omega

/-- A coefficient below one takes part of a distance that is not negative, at least none and at most all of it
(R164). -/
theorem fraction_of_nonneg (d c : Int) (hd : 0 ≤ d) (hc0 : 0 < c) (hc1 : c < 2048) :
    0 ≤ d * c / 2048 ∧ d * c / 2048 ≤ d := by
  have hnonneg : 0 ≤ d * c := mul_nonneg hd hc0.le
  have hall : d * c ≤ d * 2048 := mul_le_mul_of_nonneg_left hc1.le hd
  omega

/-- Neither the product nor the sum of R163 wraps where the coefficient is below one and the input is within `2^19` of
the history (R164). -/
theorem iirStep_h_toInt_of_near (f : Iir) (s : Word) (hc0 : 0 < f.c.toInt) (hc1 : f.c.toInt < 2048)
    (hd0 : -2 ^ 19 ≤ s.toInt - f.h.toInt) (hd1 : s.toInt - f.h.toInt ≤ 2 ^ 19) :
    (iirStep f s).h.toInt = f.h.toInt + (s.toInt - f.h.toInt) * f.c.toInt / 2048 := by
  obtain ⟨hs0, hs1⟩ := fits_toInt s
  obtain ⟨hh0, hh1⟩ := fits_toInt f.h
  rcases lt_or_ge (s.toInt - f.h.toInt) 0 with hd | hd
  · have hpart := fraction_of_neg _ _ hd hc0 hc1
    rw [iirStep_h_toInt, wrap32_of_fits (_ * _) ⟨by omega, by omega⟩, wrap32_of_fits _ ⟨by omega, by omega⟩]
  · have hpart := fraction_of_nonneg _ _ hd hc0 hc1
    rw [iirStep_h_toInt, wrap32_of_fits (_ * _) ⟨by omega, by omega⟩, wrap32_of_fits _ ⟨by omega, by omega⟩]

/-- Settles O24: the step adds the floor of a part of the distance; that floor is negative for every negative distance
and zero for a small one that is not. -/
theorem iirApproachesItsInput : Obligations.IirApproachesItsInput := by
  intro f s hc0 hc1 hd0 hd1
  have hstep := iirStep_h_toInt_of_near f s hc0 hc1 hd0 hd1
  refine ⟨fun habove => ?_, fun hbelow => ?_⟩
  · have hpart := fraction_of_neg (s.toInt - f.h.toInt) _ (by omega) hc0 hc1
    omega
  · have hpart := fraction_of_nonneg (s.toInt - f.h.toInt) _ (by omega) hc0 hc1
    refine ⟨by omega, by omega, ?_⟩
    rw [← BitVec.toInt_inj]
    omega

/-! ## One step of the equalizer (R168) -/

/-- EQ_STEP keeps the coefficients (R168). -/
theorem sameCoefficients_eqStep (f : Equalizer) (s : Word) : SameCoefficients f (eqStep f s) :=
  ⟨eqStep_lf f s, eqStep_hf f s, eqStep_g0 f s, eqStep_g1 f s, eqStep_g2 f s⟩

theorem sameCoefficients_trans {f g k : Equalizer} (hfg : SameCoefficients f g) (hgk : SameCoefficients g k) :
    SameCoefficients f k := by
  obtain ⟨hlf, hhf, h0, h1, h2⟩ := hfg
  obtain ⟨hlf', hhf', h0', h1', h2'⟩ := hgk
  exact ⟨hlf'.trans hlf, hhf'.trans hhf, h0'.trans h0, h1'.trans h1, h2'.trans h2⟩

/-- The output over the integers (R168): the differences of the mid and the high band wrap only within their
products. -/
theorem eqBands_toInt (f : Equalizer) (old : Word) : (eqBands f old).toInt =
    wrap32 (wrap32 (f.fL3.toInt * f.g0.toInt) / 2 ^ 16 + wrap32 ((f.fH3.toInt - f.fL3.toInt) * f.g1.toInt) / 2 ^ 16 +
      wrap32 ((old.toInt - f.fH3.toInt) * f.g2.toInt) / 2 ^ 16) := by
  rw [eqBands, BitVec.toInt_add, BitVec.toInt_add, eqBand_toInt, eqBand_toInt, eqBand_toInt, BitVec.toInt_sub,
    BitVec.toInt_sub, Int.bmod_mul_bmod, Int.bmod_mul_bmod, Int.bmod_add_bmod]
  rfl

/-- Settles O27: each stage is the one rule of `eqStage_toInt`, and the output the three bands of the registers after
the step. -/
theorem equalizerStepOverTheIntegers : Obligations.EqualizerStepOverTheIntegers := by
  refine ⟨fun f s => ⟨eqStage_toInt _ _ _, eqStage_toInt _ _ _, eqStage_toInt _ _ _, eqStage_toInt _ _ _,
    eqStage_toInt _ _ _, eqStage_toInt _ _ _, eqStage_toInt _ _ _, eqStage_toInt _ _ _, rfl, rfl, rfl,
    sameCoefficients_eqStep f s, ?_⟩, fun f a b c => ⟨rfl, rfl, rfl, ?_⟩⟩
  · have hbands := eqBands_toInt (eqStep f s) f.h2
    rwa [eqStep_g0, eqStep_g1, eqStep_g2] at hbands
  · have hab := sameCoefficients_trans (sameCoefficients_eqStep f a) (sameCoefficients_eqStep _ b)
    exact sameCoefficients_trans hab (sameCoefficients_eqStep _ c)

/-! ## The equalizer at rest (R169) -/

/-- All eight stages and the history hold `s` (R169). -/
structure RestsAt (f : Equalizer) (s : Word) : Prop where
  fL0 : f.fL0 = s
  fL1 : f.fL1 = s
  fL2 : f.fL2 = s
  fL3 : f.fL3 = s
  fH0 : f.fH0 = s
  fH1 : f.fH1 = s
  fH2 : f.fH2 = s
  fH3 : f.fH3 = s
  h0 : f.h0 = s
  h1 : f.h1 = s
  h2 : f.h2 = s

/-- At rest on its input no register changes: each stage holds what the stage before it has, from the input on. -/
theorem eqStep_of_restsAt {f : Equalizer} {s : Word} (h : RestsAt f s) : eqStep f s = f := by
  obtain ⟨hL0, hL1, hL2, hL3, hH0, hH1, hH2, hH3, h0, h1, h2⟩ := h
  cases f
  simp only at hL0 hL1 hL2 hL3 hH0 hH1 hH2 hH3 h0 h1 h2
  subst hL0 hL1 hL2 hL3 hH0 hH1 hH2 hH3 h0 h1 h2
  simp only [eqStep, eqStage_self]

/-- At rest the mid and the high band have no distance to multiply (R168). -/
theorem eqBands_of_restsAt {f : Equalizer} {s : Word} (h : RestsAt f s) : eqBands f f.h2 = asr (s * f.g0) 16 := by
  rw [eqBands, h.fL3, h.fH3, h.h2, BitVec.sub_self, BitVec.zero_mul, BitVec.zero_mul]
  simp [asr]

theorem eqRun_of_restsAt {f : Equalizer} {s : Word} (h : RestsAt f s) : eqRun f s = (f, asr (s * f.g0) 16) := by
  rw [eqRun, eqStep_of_restsAt h, eqBands_of_restsAt h]

/-- Settles O26: the hypotheses are `RestsAt`. -/
theorem equalizerSteadyState : Obligations.EqualizerSteadyState :=
  fun _ _ hL0 hL1 hL2 hL3 hH0 hH1 hH2 hH3 h0 h1 h2 =>
    eqRun_of_restsAt ⟨hL0, hL1, hL2, hL3, hH0, hH1, hH2, hH3, h0, h1, h2⟩

/-- An equalizer that a step on `s` leaves as it is answers the same for every `s` of a stream. -/
theorem equalizerOutputs_replicate {f : Equalizer} {s v : Word} (h : eqRun f s = (f, v)) (n : Nat) :
    equalizerOutputs f (List.replicate n s) = List.replicate n v := by
  induction n with
  | zero => rfl
  | succ n ih => rw [List.replicate_succ, equalizerOutputs, h, ih, List.replicate_succ]

/-- EQ_RESET leaves the equalizer at rest on zero (R167). -/
theorem restsAt_eqReset (f : Equalizer) : RestsAt (eqReset f) 0 := by
  constructor <;> rfl

/-- Settles O25: after EQ_RESET the equalizer is at rest on zero, where it answers zero. -/
theorem equalizerSilence : Obligations.EqualizerSilence := by
  intro f n
  have hrun := eqRun_of_restsAt (restsAt_eqReset f)
  have hzero : asr (0 * (eqReset f).g0) 16 = 0 := by simp [asr]
  rw [hzero] at hrun
  exact equalizerOutputs_replicate hrun n

/-! ## What INIT loads (R170, R261, R262) -/

/-- `bpp4fmt` over the integers (R125). -/
theorem bpp4fmt_eq_bytesPerPixel (f : Word) : bpp4fmt f = bytesPerPixel f.toInt := by
  unfold bpp4fmt
  cases hf : pixelFormat? f with
  | some k => exact (pixelFormat?_offsets f k hf).1
  | none =>
    by_contra hne
    obtain ⟨k, hk⟩ := exists_pixelFormat?_of_bytesPerPixel f (Ne.symm hne)
    cases hf.symm.trans hk

/-- The checks of INIT and RESIZE pass for a descriptor that fits (R261). -/
theorem descriptorOk_of_fits (w h f base : Word) (hfits : DescriptorFits w h f base) :
    descriptorOk w h f base = true := by
  obtain ⟨hw0, hw1, hh0, hh1, hregion⟩ := hfits
  have hw : (natOf w : Int) = w.toInt := Int.toNat_of_nonneg (by omega)
  have hh : (natOf h : Int) = h.toInt := Int.toNat_of_nonneg (by omega)
  have hbytes : base.toNat + regionBytes w h (bpp4fmt f) ≤ addressSpace := by
    rw [regionBytes, addressSpace, bpp4fmt_eq_bytesPerPixel]
    rw [← hw, ← hh] at hregion
    exact_mod_cast hregion
  simp [descriptorOk, dimOk, maxDim, hw0, hw1, hh0, hh1, hbytes]

/-- INIT with a descriptor that fits does its whole state change (R261). -/
theorem exec_init_of_fits (w h f base : Word) (s : State) (hfits : DescriptorFits w h f base) :
    exec (.init w h f base) s = .next (answered 0 0 (initCrt w h f base s)) := by
  have hok := descriptorOk_of_fits w h f base hfits
  rcases execInit_cases w h f base s with ⟨_, he⟩ | ⟨hbad, _⟩
  · exact he
  · cases hok.symm.trans hbad

@[simp] theorem initCrt_eqY (w h f b : Word) (s : State) : (initCrt w h f b s).eqY = eqSetup s.cfg s.cfg.eqY := rfl
@[simp] theorem initCrt_eqI (w h f b : Word) (s : State) : (initCrt w h f b s).eqI = eqSetup s.cfg s.cfg.eqI := rfl
@[simp] theorem initCrt_eqQ (w h f b : Word) (s : State) : (initCrt w h f b s).eqQ = eqSetup s.cfg s.cfg.eqQ := rfl

/-- The setup of an equalizer reads the length of a line only (R262), which the chroma pattern decides (R11). -/
theorem eqSetup_congr (c c' : Config) (p : EqParams) (h : c.chroma = c'.chroma) : eqSetup c p = eqSetup c' p := by
  have hhres : hres c = hres c' := by rw [hres, hres, ccLine10, ccLine10, h]
  rw [eqSetup, eqSetup, kHz2L, kHz2L, kHz2L, kHz2L, hhres]

/-- R170 for pattern 0. -/
theorem referenceCoefficients_vertical (c : Config) (h : c.chroma = .vertical) :
    (eqSetup c Config.reference.eqY).lf = 42064 ∧ (eqSetup c Config.reference.eqY).hf = 80024 ∧
    (eqSetup c Config.reference.eqI).lf = 2204 ∧ (eqSetup c Config.reference.eqI).hf = 32536 ∧
    (eqSetup c Config.reference.eqQ).lf = 2204 ∧ (eqSetup c Config.reference.eqQ).hf = 28148 := by
  have hsame (p : EqParams) := eqSetup_congr c { Config.reference with chroma := .vertical } p h
  rw [hsame, hsame, hsame]
  decide

/-- R170 for pattern 1, the pattern of the reference build. -/
theorem referenceCoefficients_checkered (c : Config) (h : c.chroma = .checkered) :
    (eqSetup c Config.reference.eqY).lf = 42156 ∧ (eqSetup c Config.reference.eqY).hf = 79824 ∧
    (eqSetup c Config.reference.eqI).lf = 2252 ∧ (eqSetup c Config.reference.eqI).hf = 32636 ∧
    (eqSetup c Config.reference.eqQ).lf = 2252 ∧ (eqSetup c Config.reference.eqQ).hf = 28248 := by
  have hsame (p : EqParams) := eqSetup_congr c Config.reference p h
  rw [hsame, hsame, hsame]
  decide

/-- Settles O15: INIT sets up each equalizer from its parameters; the coefficients depend on the chroma pattern, the
gains are the parameters themselves. -/
theorem referenceEqualizersAreAsTabled : Obligations.ReferenceEqualizersAreAsTabled := by
  intro w h f b s t hfits he hY hI hQ
  cases (exec_init_of_fits w h f b s hfits).symm.trans he
  have hy : (answered 0 0 (initCrt w h f b s)).eqY = eqSetup s.cfg Config.reference.eqY := by
    rw [answered_eqY, initCrt_eqY, hY]
  have hi : (answered 0 0 (initCrt w h f b s)).eqI = eqSetup s.cfg Config.reference.eqI := by
    rw [answered_eqI, initCrt_eqI, hI]
  have hq : (answered 0 0 (initCrt w h f b s)).eqQ = eqSetup s.cfg Config.reference.eqQ := by
    rw [answered_eqQ, initCrt_eqQ, hQ]
  rw [hy, hi, hq]
  exact ⟨referenceCoefficients_vertical s.cfg, referenceCoefficients_checkered s.cfg, rfl, rfl, rfl, rfl, rfl, rfl, rfl,
    rfl, rfl⟩

end Sys2Proof.Machine
end

section
/-! MODULATE: step 1 alone (R183, R184), the entry checks (R186), the blanking layout (R190 to R195) and what the whole
command leaves (R181, R202, R206). -/

namespace Sys2Proof.Machine

open Sys2Proof.Claims

/-! ## Step 1 (R183, R184) -/

/-- Step 1 writes the low-passes and `S_IIRS_INIT`, and nothing else. -/
theorem initIirs_eq (s : State) : initIirs s = { s with
    iirY := (modulateCoeffs s).y, iirI := (modulateCoeffs s).i, iirQ := (modulateCoeffs s).q,
    settings := { s.settings with iirsInit := true } } := by
  rw [← initIirs_eq_modulateCoeffs, ← initIirs_settings]
  unfold initIirs
  split <;> rfl

/-- Settles O34: a format without bytes per pixel has no name, and MODULATE answers the state step 1 leaves. -/
theorem modulateUnsupportedFormat : Obligations.ModulateUnsupportedFormat := by
  intro s hi hbytes
  have hf : pixelFormat? s.settings.format = none := by
    cases hf : pixelFormat? s.settings.format with
    | none => rfl
    | some f =>
      have hzero : f.bytes = 0 := (pixelFormat?_offsets _ f hf).1.trans hbytes
      exact absurd hzero (by cases f <;> decide)
  have hexec : exec .modulate s = .next (answered 0 0 (initIirs s)) := by
    simp [exec, execModulate, needsInit, hi, hf, respondOk]
  rw [hexec, initIirs_eq]
  rfl

/-! ## The entry checks (R186) -/

theorem dimOk_iff (v : Word) : dimOk v = true ↔ 1 ≤ v.toInt ∧ v.toInt ≤ 32767 := by
  rw [dimOk, Bool.and_eq_true, decide_eq_true_iff, decide_eq_true_iff, maxDim]

theorem offsetOk_iff (v : Word) : offsetOk v = true ↔ -65536 ≤ v.toInt ∧ v.toInt ≤ 65536 := by simp [offsetOk]

/-- The third check of R186 does not wrap once the sizes and the offsets are legal. -/
theorem columnsOk_iff (c : Config) (t : Settings) (hw : 1 ≤ t.w.toInt) (h0 : -65536 ≤ t.xoffset.toInt)
    (h1 : t.xoffset.toInt ≤ 65536) :
    columnsOk c (destRect c t) = true ↔ 0 ≤ rectX c t ∧ rectX c t + rectWidth c t ≤ hres c := by
  have hlen := avLen_cases c
  have hbeg := avBeg_le c
  have hx := destX_toInt c t hw h0 h1
  have hd := destWidth_toInt c t
  obtain ⟨hw0, hw1⟩ := rectWidth_range c t hw
  obtain ⟨hm0, hm1⟩ := tdiv_range ((avLen c : Int) - rectWidth c t) 2 400 (by decide) (by omega) (by omega)
  have hrange : -70000 ≤ rectX c t ∧ rectX c t ≤ 70000 := by
    unfold rectX
    dsimp only
    omega
  have hend : (destX c t + destWidth c t).toInt = rectX c t + rectWidth c t := by
    rw [add_toInt _ _ (by rw [hx, hd]; constructor <;> omega), hx, hd]
  simp [columnsOk, destRect, hx, hend]

/-- The fourth check of R186 does not wrap once the sizes and the offsets are legal. -/
theorem rowsOk_iff (c : Config) (t : Settings) (hh : 1 ≤ t.h.toInt) (h0 : -65536 ≤ t.yoffset.toInt)
    (h1 : t.yoffset.toInt ≤ 65536) :
    rowsOk (destRect c t) = true ↔ 0 ≤ rectY t ∧ rectY t + rectHeight t ≤ 262 := by
  have hy := destY_toInt t hh h0 h1
  have hd := destHeight_toInt t
  obtain ⟨hh0, hh1⟩ := rectHeight_range t hh
  obtain ⟨hm0, hm1⟩ := tdiv_range (240 - rectHeight t) 2 120 (by decide) (by omega) (by omega)
  have hrange : -70000 ≤ rectY t ∧ rectY t ≤ 70000 := by
    unfold rectY
    omega
  have hend : (destY t + destHeight t).toInt = rectY t + rectHeight t := by
    rw [add_toInt _ _ (by rw [hy, hd]; constructor <;> omega), hy, hd]
  simp [rowsOk, destRect, hy, hend, vres]

/-- The operands pass the four checks exactly where they are legal over the integers (R186). -/
theorem operandChecks_iff (c : Config) (t : Settings) :
    (((dimOk t.w && dimOk t.h) = true ∧ (offsetOk t.xoffset && offsetOk t.yoffset) = true) ∧
      columnsOk c (destRect c t) = true ∧ rowsOk (destRect c t) = true) ↔ ModulateOperandsOk c t := by
  simp only [Bool.and_eq_true, dimOk_iff, offsetOk_iff, ModulateOperandsOk]
  constructor
  · rintro ⟨⟨⟨⟨hw0, hw1⟩, hh0, hh1⟩, ⟨hx0, hx1⟩, hy0, hy1⟩, hcolumns, hrows⟩
    obtain ⟨hc0, hc1⟩ := (columnsOk_iff c t hw0 hx0 hx1).mp hcolumns
    obtain ⟨hr0, hr1⟩ := (rowsOk_iff c t hh0 hy0 hy1).mp hrows
    exact ⟨hw0, hw1, hh0, hh1, hx0, hx1, hy0, hy1, hc0, hc1, hr0, hr1⟩
  · rintro ⟨hw0, hw1, hh0, hh1, hx0, hx1, hy0, hy1, hc0, hc1, hr0, hr1⟩
    exact ⟨⟨⟨⟨hw0, hw1⟩, hh0, hh1⟩, ⟨hx0, hx1⟩, hy0, hy1⟩, (columnsOk_iff c t hw0 hx0 hx1).mpr ⟨hc0, hc1⟩,
      (rowsOk_iff c t hh0 hy0 hy1).mpr ⟨hr0, hr1⟩⟩

/-- Operands that are not legal fail one of the first four checks (R186). -/
theorem modulateCheck_of_not_operandsOk (s : State) (bpp : Nat) (h : ¬ ModulateOperandsOk s.cfg s.settings) :
    modulateCheck s bpp = some .illegalOperand := by
  unfold modulateCheck
  dsimp only
  split
  · rfl
  · split
    · rfl
    · split
      · rfl
      · split
        · rfl
        · next hdim hoffset hcolumns hrows =>
          rw [Bool.not_eq_true', Bool.not_eq_false] at hdim hoffset hcolumns hrows
          exact absurd ((operandChecks_iff _ _).mp ⟨⟨hdim, hoffset⟩, hcolumns, hrows⟩) h

/-- The platform's check over the integers (R80, R82). -/
theorem admits_iff_admitted (rs : List Region) (a n : Nat) : admits rs a n = true ↔ Admitted rs a n := by
  simp only [admits_iff, inRegions_iff, Admitted]
  rfl

/-- Legal operands with a source region past the address space or not readable fail the last two checks (R186). -/
theorem modulateCheck_of_not_admitted (s : State) (f : PixelFormat) (hf : pixelFormat? s.settings.format = some f)
    (hok : ModulateOperandsOk s.cfg s.settings)
    (hmem : ¬ Admitted s.readable s.settings.data.toNat (sourceBytes s.settings)) :
    modulateCheck s f.bytes = some .memFault := by
  obtain ⟨⟨hdim, hoffset⟩, hcolumns, hrows⟩ := (operandChecks_iff _ _).mpr hok
  obtain ⟨hw0, -, hh0, -⟩ := hok
  have hbytes := regionBytes_eq_sourceBytes s.settings f hf (by omega) (by omega)
  have hadmits : admits s.readable s.settings.data.toNat (sourceBytes s.settings) = false := by
    rw [← Bool.not_eq_true, admits_iff_admitted]
    exact hmem
  simp [modulateCheck, hdim, hoffset, hcolumns, hrows, hbytes, hadmits]

/-- The first check that fails raises its fault (R186). -/
theorem exec_modulate_of_check (s : State) (f : PixelFormat) (c : Cause) (hi : s.initialized = true)
    (hf : pixelFormat? s.settings.format = some f) (hc : modulateCheck s f.bytes = some c) :
    exec .modulate s = .next (faulted c s) := by
  simp [exec, execModulate, needsInit, hi, hf, hc, raiseFault]

/-- Settles O33: the operand checks come before the checks of the source region. -/
theorem modulateEntryChecks : Obligations.ModulateEntryChecks := by
  intro s hi hbytes
  obtain ⟨f, hf⟩ := exists_pixelFormat?_of_bytesPerPixel _ hbytes
  exact ⟨fun hbad => exec_modulate_of_check s f _ hi hf (modulateCheck_of_not_operandsOk s f.bytes hbad),
    fun hok hmem => exec_modulate_of_check s f _ hi hf (modulateCheck_of_not_admitted s f hf hok hmem)⟩

end Sys2Proof.Machine
end

section
/-! What MODULATE leaves: the blanking layout (R190 to R195), which step 6 keeps around the picture (R202), and the rest
of the state (R181, R206). -/

namespace Sys2Proof.Machine

open Sys2Proof.Claims

/-! ## The levels of a fill (R190) -/

/-- A sample of the field as step 5 and step 6 write it: a level survives the write (R41, R205). -/
theorem sample_putSample_level (b : Buffer) (i : Nat) (v : Word) (hv : AnalogLevel v) (hi : i < b.size) :
    sample (putSample b i v) i = v := by
  obtain ⟨h0, h1⟩ := hv
  rw [sample_putSample, if_pos ⟨rfl, hi⟩, sext8_setWidth v (by omega) (by omega)]

/-- A sample of a line after a fill with a level (R190). -/
theorem sample_fillLine (base t0 t1 : Nat) (v : Word) (b : Buffer) (x : Nat) (hv : AnalogLevel v)
    (hx : base + x < b.size) :
    sample (fillLine base t0 t1 v b) (base + x) = if t0 ≤ x ∧ x < t1 then v else sample b (base + x) := by
  obtain ⟨h0, h1⟩ := hv
  split
  · rw [sample_fillLine_inside _ _ _ _ _ _ (by omega) (by omega) hx, sext8_setWidth v (by omega) (by omega)]
  · exact sample_fillLine_outside _ _ _ _ _ _ (by omega)

theorem sample_fillSync (base t0 t1 : Nat) (b : Buffer) (x : Nat) (hx : base + x < b.size) :
    (sample (fillLine base t0 t1 syncLevel b) (base + x)).toInt =
      if t0 ≤ x ∧ x < t1 then -40 else (sample b (base + x)).toInt := by
  rw [sample_fillLine _ _ _ _ _ _ analogLevel_sync hx, apply_ite BitVec.toInt]
  rfl

theorem sample_fillBlank (base t0 t1 : Nat) (b : Buffer) (x : Nat) (hx : base + x < b.size) :
    (sample (fillLine base t0 t1 blankLevel b) (base + x)).toInt =
      if t0 ≤ x ∧ x < t1 then 0 else (sample b (base + x)).toInt := by
  rw [sample_fillLine _ _ _ _ _ _ analogLevel_blank hx, apply_ite BitVec.toInt]
  rfl

/-- Two sync pulses with blanking after each: the samples of lines 0 to 9 (R191, R192). -/
theorem sample_twoPulses (base t1 t2 t3 t4 : Nat) (b : Buffer) (x : Nat) (h12 : t1 ≤ t2) (h23 : t2 ≤ t3) (hx : x < t4)
    (hsize : base + x < b.size) :
    (sample (fillLine base t3 t4 blankLevel (fillLine base t2 t3 syncLevel (fillLine base t1 t2 blankLevel
      (fillLine base 0 t1 syncLevel b)))) (base + x)).toInt =
      if x < t1 then -40 else if x < t2 then 0 else if x < t3 then -40 else 0 := by
  rw [sample_fillBlank _ _ _ _ _ (by simpa using hsize), sample_fillSync _ _ _ _ _ (by simpa using hsize),
    sample_fillBlank _ _ _ _ _ (by simpa using hsize), sample_fillSync _ _ _ _ _ hsize]
  split_ifs <;> omega

/-! ## The positions of a line (R14, R190) -/

theorem pct_mono (c : Config) {p q : Nat} (h : p ≤ q) : pct c p ≤ pct c q :=
  Nat.div_le_div_right (Nat.mul_le_mul_right _ h)

theorem pct_hundred (c : Config) : pct c 100 = hres c := Nat.mul_div_cancel_left _ (by decide)

/-- The positions of a body line in their order; the burst ends before the active video (R14, R16). -/
theorem positions_ordered (c : Config) : syncBeg c ≤ bwBeg c ∧ bwBeg c ≤ cbBeg c ∧ cbBeg c + burstLen ≤ avBeg c ∧
    avBeg c ≤ hres c := by
  obtain ⟨-, -, hsync, hbw, hcb, -, hav, -⟩ := positions_of_hres c _ rfl
  have hburst : burstLen = 40 := rfl
  rw [hsync, hbw, hcb, hav, hburst]
  rcases hres_cases c with h | h <;> omega

/-! ## The burst (R188, R194, R195) -/

theorem inverted_iff (c : Config) (t : Settings) : inverted c t = true ↔ burstInverted c t := by
  simp [inverted, invPhase, burstInverted]

theorem rowAt_mod (row : BurstRow) (k : Nat) : rowAt row (k % 4) = rowAt row k := by simp only [rowAt, Nat.mod_mod]

/-- The burst has a period of four samples (R194). -/
theorem burstSample_mod (c : Config) (t : Settings) (table : BurstRow) (pos : Nat) :
    burstSample c t table (pos % 4) = burstSample c t table pos := by
  unfold burstSample
  dsimp only
  split
  · rw [← rowAt_mod, ← rowAt_mod _ (pos + _), Nat.mod_add_mod]
  · rw [rowAt_mod]

/-- The burst sample over the integers (R194). -/
theorem burstSample_toInt (c : Config) (t : Settings) (pos : Nat) :
    (burstSample c t (ccburst t) pos).toInt = burstValue c t pos := by
  have hlevel : burstLevel.toInt = 20 := rfl
  obtain ⟨h0, h1⟩ := rowAt_carrierTable_range t 33 (if inverted c t then pos + 2 else pos)
  have hmul := mul_toInt (rowAt (ccburst t) (if inverted c t then pos + 2 else pos)) burstLevel
    (by rw [hlevel]; constructor <;> simp only [ccburst] <;> omega)
  have hsample : burstSample c t (ccburst t) pos =
      asr (rowAt (ccburst t) (if inverted c t then pos + 2 else pos) * burstLevel) 5 :=
    congrArg (asr · 5) (BitVec.zero_add _)
  rw [hsample, asr_toInt, hmul, hlevel]
  rw [burstValue]
  by_cases hinv : burstInverted c t
  · rw [if_pos hinv, if_pos ((inverted_iff c t).mpr hinv)]
    rfl
  · rw [if_neg hinv, if_neg (mt (inverted_iff c t).mp hinv)]
    rfl

/-- A bucket of a row after a write (R43). -/
theorem rowAt_rowSet (row : BurstRow) (i j : Nat) (v : Word) :
    rowAt (rowSet row i v) j = if i % 4 = j % 4 then v else rowAt row j := by
  rw [rowAt, rowSet, Vector.getElem_set]
  rfl

/-- What stands in the field and in `iccf` when the first `n` samples of a burst are written over `old`. -/
structure BurstLaid (c : Config) (t : Settings) (table : BurstRow) (base : Nat) (old : Buffer) (n : Nat)
    (acc : Buffer × BurstRow) : Prop where
  size : acc.1.size = old.size
  bucket : ∀ pos, cbBeg c ≤ pos → pos < cbBeg c + n → rowAt acc.2 pos = burstSample c t table pos
  laid : ∀ pos, cbBeg c ≤ pos → pos < cbBeg c + n → base + pos < old.size →
    sample acc.1 (base + pos) = burstSample c t table pos
  kept : ∀ j, j < base + cbBeg c ∨ base + (cbBeg c + n) ≤ j → sample acc.1 j = sample old j

/-- A whole burst (R194, R195). -/
theorem burstLine_laid (c : Config) (t : Settings) (base : Nat) (acc : Buffer × BurstRow) :
    BurstLaid c t (ccburst t) base acc.1 burstLen (burstLine c t (ccburst t) base acc) := by
  have hrounds : cbBeg c + burstLen - cbBeg c = burstLen := Nat.add_sub_cancel_left _ _
  rw [burstLine, forRange, hrounds]
  refine loop_rule _ (BurstLaid c t (ccburst t) base acc.1) _ _ _
    ⟨rfl, fun _ _ _ => by omega, fun _ _ _ => by omega, fun _ _ => rfl⟩ fun n x _ hx => ?_
  obtain ⟨b, iccf⟩ := x
  obtain ⟨hsize, hbucket, hlaid, hkept⟩ := hx
  refine ⟨(size_putSample ..).trans hsize, fun pos h0 h1 => ?_, fun pos h0 h1 hpos => ?_, fun j hj => ?_⟩
  · simp only [rowAt_rowSet]
    split
    · next hmod => rw [← burstSample_mod, hmod, burstSample_mod]
    · next hmod =>
      have hne : pos ≠ cbBeg c + n := fun he => hmod (he ▸ rfl)
      exact hbucket pos h0 (by omega)
  · rcases (by omega : pos < cbBeg c + n ∨ pos = cbBeg c + n) with h | rfl
    · exact (sample_putSample_ne _ _ _ _ (by omega)).trans (hlaid pos h0 h hpos)
    · exact sample_putSample_level _ _ _ (analogLevel_burstSample c t _) (hpos.trans_eq hsize.symm)
  · exact (sample_putSample_ne _ _ _ _ (by omega)).trans (hkept j (by omega))

/-! ## One line (R191 to R194) -/

theorem size_bodyLine (c : Config) (n base : Nat) (b : Buffer) : (bodyLine c n base b).size = b.size := by
  unfold bodyLine
  dsimp only
  split <;> simp

/-- A body line writes its own samples only (R190, R193). -/
theorem sample_bodyLine_outside (c : Config) (n base : Nat) (b : Buffer) (j : Nat) (hj : j < base ∨ base + hres c ≤ j) :
    sample (bodyLine c n base b) j = sample b j := by
  obtain ⟨hsync, hbw, hcb, hav⟩ := positions_ordered c
  have hfill (t0 t1 : Nat) (v : Word) (b : Buffer) (h : t1 ≤ hres c) :
      sample (fillLine base t0 t1 v b) j = sample b j := sample_fillLine_outside _ _ _ _ _ _ (by omega)
  unfold bodyLine
  dsimp only
  split
  · rw [hfill _ _ _ _ le_rfl, hfill _ _ _ _ hav, hfill _ _ _ _ (by omega), hfill _ _ _ _ (by omega)]
  · rw [hfill _ _ _ _ hav, hfill _ _ _ _ (by omega), hfill _ _ _ _ (by omega)]

/-- Lines 10 to 261 before their burst (R193). -/
theorem sample_bodyLine (c : Config) (n base : Nat) (b : Buffer) (x : Nat) (hx : x < hres c)
    (hsize : base + x < b.size) :
    (sample (bodyLine c n base b) (base + x)).toInt =
      if x < syncBeg c then 0 else if x < bwBeg c then -40 else if x < avBeg c then 0
      else if n < 21 ∨ 261 ≤ n then 0 else (sample b (base + x)).toInt := by
  obtain ⟨hsync, hbw, hcb, hav⟩ := positions_ordered c
  have hblank : (sample (fillLine base (bwBeg c) (avBeg c) blankLevel (fillLine base (syncBeg c) (bwBeg c) syncLevel
      (fillLine base 0 (syncBeg c) blankLevel b))) (base + x)).toInt =
      if x < syncBeg c then 0 else if x < bwBeg c then -40 else if x < avBeg c then 0
      else (sample b (base + x)).toInt := by
    rw [sample_fillBlank _ _ _ _ _ (by simpa using hsize), sample_fillSync _ _ _ _ _ (by simpa using hsize),
      sample_fillBlank _ _ _ _ _ hsize]
    split_ifs <;> omega
  unfold bodyLine topLine botLine
  dsimp only
  split
  · rw [sample_fillBlank _ _ _ _ _ (by simpa using hsize), hblank]
    split_ifs <;> omega
  · rw [hblank]

/-- What a line of the layout leaves: its own samples, and every other sample of the field as it was (R190). -/
structure LineLaid (c : Config) (t : Settings) (n : Nat) (old new : Buffer) : Prop where
  size : new.size = old.size
  laid : ∀ x < hres c, n * hres c + x < old.size → (sample new (n * hres c + x)).toInt =
    (layoutValue c t n x).getD (sample old (n * hres c + x)).toInt
  kept : ∀ j, j < n * hres c ∨ n * hres c + hres c ≤ j → sample new j = sample old j

/-- A line of two pulses whose values are those of the layout (R191, R192). -/
theorem lineLaid_twoPulses (c : Config) (t : Settings) (n t1 t2 t3 : Nat) (b : Buffer) (h12 : t1 ≤ t2) (h23 : t2 ≤ t3)
    (h3 : t3 ≤ hres c)
    (hvalue : ∀ x, layoutValue c t n x =
      some (if x < t1 then -40 else if x < t2 then 0 else if x < t3 then -40 else 0)) :
    LineLaid c t n b (fillLine (n * hres c) t3 (pct c 100) blankLevel (fillLine (n * hres c) t2 t3 syncLevel
      (fillLine (n * hres c) t1 t2 blankLevel (fillLine (n * hres c) 0 t1 syncLevel b)))) := by
  rw [pct_hundred]
  have hfill (p q : Nat) (v : Word) (b : Buffer) (j : Nat) (hj : j < n * hres c ∨ n * hres c + hres c ≤ j)
      (hq : q ≤ hres c) : sample (fillLine (n * hres c) p q v b) j = sample b j :=
    sample_fillLine_outside _ _ _ _ _ _ (by omega)
  refine ⟨by simp, fun x hx hsize => ?_, fun j hj => ?_⟩
  · rw [hvalue, Option.getD_some]
    exact sample_twoPulses _ _ _ _ _ b x h12 h23 hx hsize
  · rw [hfill _ _ _ _ j hj le_rfl, hfill _ _ _ _ j hj h3, hfill _ _ _ _ j hj (by omega), hfill _ _ _ _ j hj (by omega)]

/-- Lines 0 to 3 and 7 to 9 (R191). -/
theorem lineLaid_equalizingLine (c : Config) (t : Settings) (n : Nat) (b : Buffer) (hn : n ≤ 3 ∨ (7 ≤ n ∧ n ≤ 9)) :
    LineLaid c t n b (equalizingLine c (n * hres c) b) :=
  lineLaid_twoPulses c t n _ _ _ b (pct_mono c (by decide)) (pct_mono c (by decide))
    ((pct_mono c (by decide)).trans_eq (pct_hundred c)) fun _ => if_pos hn

/-- Lines 4 to 6 (R192). -/
theorem lineLaid_vsyncLine (c : Config) (t : Settings) (n : Nat) (b : Buffer) (hn : ¬ (n ≤ 3 ∨ (7 ≤ n ∧ n ≤ 9)))
    (hn6 : n ≤ 6) : LineLaid c t n b (vsyncLine c t.field (n * hres c) b) :=
  have hfirst : vsyncFirst t.field ≤ 50 := by cases t.field <;> decide
  lineLaid_twoPulses c t n _ _ _ b (pct_mono c hfirst) (pct_mono c (by decide))
    ((pct_mono c (by decide)).trans_eq (pct_hundred c)) fun _ => (if_neg hn).trans (if_pos hn6)

/-- Lines 10 to 261 with their burst (R193, R194). -/
theorem lineLaid_burstLine (c : Config) (t : Settings) (n : Nat) (b : Buffer) (row : BurstRow)
    (hn : ¬ (n ≤ 3 ∨ (7 ≤ n ∧ n ≤ 9))) (hn6 : ¬ n ≤ 6) :
    LineLaid c t n b (burstLine c t (ccburst t) (n * hres c) (bodyLine c n (n * hres c) b, row)).1 := by
  obtain ⟨hsync, hbw, hcb, hav⟩ := positions_ordered c
  have hbody := size_bodyLine c n (n * hres c) b
  have hlength : burstLen = 40 := rfl
  obtain ⟨hsize, -, hlaid, hkept⟩ := burstLine_laid c t (n * hres c) (bodyLine c n (n * hres c) b, row)
  refine ⟨hsize.trans hbody, fun x hx hxs => ?_, fun j hj => ?_⟩
  · rw [layoutValue, if_neg hn, if_neg hn6]
    by_cases hburst : cbBeg c ≤ x ∧ x < cbBeg c + 40
    · rw [if_pos hburst, hlaid x hburst.1 hburst.2 (hxs.trans_eq hbody.symm), burstSample_toInt]
      rfl
    · rw [if_neg hburst, hkept _ (by omega), sample_bodyLine c n _ b x hx hxs]
      split_ifs <;> rfl
  · exact (hkept j (by omega)).trans (sample_bodyLine_outside c n _ b j hj)

/-- Every line of the layout (R190). -/
theorem lineLaid_layoutLine (c : Config) (t : Settings) (n : Nat) (acc : Buffer × BurstRow) :
    LineLaid c t n acc.1 (layoutLine c t (ccburst t) n acc).1 := by
  unfold layoutLine
  dsimp only
  split
  · next hn => exact lineLaid_equalizingLine c t n acc.1 hn
  · next hn =>
    split
    · next hn6 => exact lineLaid_vsyncLine c t n acc.1 hn hn6
    · next hn6 => exact lineLaid_burstLine c t n acc.1 acc.2 hn hn6

/-! ## All lines (R190, R195) -/

/-- What stands in the field when the first `n` lines are laid out over `old`. -/
structure LinesLaid (c : Config) (t : Settings) (old : Buffer) (n : Nat) (acc : Buffer × BurstRow) : Prop where
  size : acc.1.size = old.size
  laid : ∀ m < n, ∀ x < hres c, (sample acc.1 (m * hres c + x)).toInt =
    (layoutValue c t m x).getD (sample old (m * hres c + x)).toInt
  kept : ∀ j, n * hres c ≤ j → sample acc.1 j = sample old j

theorem linesLaid_succ {c : Config} {t : Settings} {old : Buffer} {n : Nat} {acc : Buffer × BurstRow}
    (hold : old.size = fieldSize c) (hn : n < vres) (h : LinesLaid c t old n acc) :
    LinesLaid c t old (n + 1) (layoutLine c t (ccburst t) n acc) := by
  obtain ⟨hsize, hlaid, hkept⟩ := lineLaid_layoutLine c t n acc
  have hlines : (n + 1) * hres c ≤ fieldSize c := by
    rw [fieldSize, Nat.mul_comm]
    exact Nat.mul_le_mul_left _ hn
  rw [Nat.succ_mul] at hlines
  refine ⟨hsize.trans h.size, fun m hm x hx => ?_, fun j hj => ?_⟩
  · rcases (Nat.le_of_lt_succ hm).lt_or_eq with hm | rfl
    · have hline : (m + 1) * hres c ≤ n * hres c := Nat.mul_le_mul_right _ hm
      rw [Nat.succ_mul] at hline
      rw [hkept _ (by omega)]
      exact h.laid m hm x hx
    · rw [hlaid x hx (by rw [h.size, hold]; omega), h.kept _ (Nat.le_add_right _ _)]
  · rw [Nat.succ_mul] at hj
    rw [hkept j (Or.inr hj), h.kept j (by omega)]

/-- The layout of a whole field (R190 to R194). -/
theorem layoutField_laid (c : Config) (t : Settings) (b : Buffer) (hb : b.size = fieldSize c) :
    LinesLaid c t b vres (layoutField c t b) := by
  have hstart : LinesLaid c t b 0 (b, zeroRow) := ⟨rfl, fun _ hm => absurd hm (Nat.not_lt_zero _), fun _ _ => rfl⟩
  rw [layoutField, forRange, Nat.sub_zero]
  refine loop_rule _ (LinesLaid c t b) _ 0 _ hstart fun n x hn hx => ?_
  rw [Nat.zero_add]
  exact linesLaid_succ hb hn hx

/-- A line from 10 on is a body line with its burst (R193). -/
theorem layoutLine_of_ge (c : Config) (t : Settings) (table : BurstRow) (n : Nat) (acc : Buffer × BurstRow)
    (hn : 10 ≤ n) :
    layoutLine c t table n acc = burstLine c t table (n * hres c) (bodyLine c n (n * hres c) acc.1, acc.2) := by
  rw [layoutLine, if_neg (by omega), if_neg (by omega)]

/-- The burst of a line from 10 on fills `iccf` (R195). -/
theorem rowAt_layoutLine (c : Config) (t : Settings) (n k : Nat) (acc : Buffer × BurstRow) (hn : 10 ≤ n) :
    rowAt (layoutLine c t (ccburst t) n acc).2 k = burstSample c t (ccburst t) k := by
  have hlength : burstLen = 40 := rfl
  have hmod : (cbBeg c + (k + 3 * cbBeg c) % 4) % 4 = k % 4 := by omega
  rw [layoutLine_of_ge c t _ n acc hn, ← rowAt_mod, ← burstSample_mod c t _ k, ← hmod, rowAt_mod, burstSample_mod]
  exact (burstLine_laid c t _ _).bucket _ (by omega) (by omega)

/-- The last line of a field leaves its burst in `iccf` (R195). -/
theorem rowAt_layoutField (c : Config) (t : Settings) (b : Buffer) (k : Nat) :
    rowAt (layoutField c t b).2 k = burstSample c t (ccburst t) k := by
  have hlast := forRange_snoc 0 botLine (b, zeroRow) (layoutLine c t (ccburst t)) (Nat.zero_le _)
  have hfield : layoutField c t b = forRange 0 (botLine + 1) (b, zeroRow) (layoutLine c t (ccburst t)) := rfl
  rw [hfield, hlast]
  exact rowAt_layoutLine c t botLine k _ (by decide)

/-- Step 5 does not read `S_IIRS_INIT`, the one setting step 1 writes (R183). -/
theorem layoutField_initIirs (s : State) : layoutField (initIirs s).cfg (initIirs s).settings (initIirs s).analog =
    layoutField s.cfg s.settings s.analog := by
  rw [initIirs_cfg, initIirs_settings, initIirs_analog]
  rfl

/-! ## Around the picture (R200, R202) -/

/-- Step 6 writes the samples of the rectangle and no other (R200). -/
theorem sample_paintRows_outside (e : Paint) (acc : Buffer × Iirs) (j : Nat)
    (h : ∀ x < natOf e.rect.destw, ∀ y < natOf e.rect.desth, paintIndex e.cfg e.rect x y ≠ j) :
    sample (paintRows e acc).1 j = sample acc.1 j :=
  forRange_rule 0 _ acc _ (fun p => sample p.1 j = sample acc.1 j) rfl fun y p _ hy hp =>
    forRange_rule 0 _ (p.1, iirsReset p.2) _ (fun p => sample p.1 j = sample acc.1 j) hp fun x _ _ hx hq =>
      (sample_putSample_ne _ _ _ _ (h x hx y hy)).trans hq

theorem size_paintRows (e : Paint) (acc : Buffer × Iirs) : (paintRows e acc).1.size = acc.1.size :=
  forRange_rule 0 _ acc _ (fun p => p.1.size = acc.1.size) rfl fun _ p _ _ hp =>
    forRange_rule 0 _ (p.1, iirsReset p.2) _ (fun p => p.1.size = acc.1.size) hp fun _ _ _ _ hq =>
      (size_putSample ..).trans hq

/-- A sample outside the rectangle is not one that step 6 paints (R200). -/
theorem RectFits.paintIndex_ne_of_not_inRect {c : Config} {t : Settings} (h : RectFits c t) (n x x' y : Nat)
    (hx : x < hres c) (hout : ¬ InRect c t n x) (hx' : x' < natOf (destWidth c t)) (hy : y < natOf (destHeight t)) :
    paintIndex c (destRect c t) x' y ≠ n * hres c + x := by
  intro he
  obtain ⟨hcolumns, -⟩ := h.rect_nat
  simp only [paintIndex, destRect] at he
  have hcolumn : x' + natOf (destX c t) = x := by
    have hmod := congrArg (· % hres c) he
    simp only [Nat.add_mul_mod_self_right, Nat.mul_add_mod_self_right] at hmod
    rwa [Nat.mod_eq_of_lt (by omega), Nat.mod_eq_of_lt hx] at hmod
  have hrow : y + natOf (destY t) = n := Nat.eq_of_mul_eq_mul_right (by omega) (by omega : _ * hres c = n * hres c)
  have hw := destWidth_toInt c t
  have hh := destHeight_toInt t
  have hxo := h.x_eq
  have hyo := h.y_eq
  obtain ⟨hcol0, -⟩ := h.columns
  obtain ⟨hrow0, -⟩ := h.rows
  unfold natOf at hcolumn hrow hx' hy
  exact hout ⟨by omega, by omega, by omega, by omega⟩

/-- Settles O31: step 6 leaves every sample outside the rectangle as the layout left it. -/
theorem modulateLaysOutTheField : Obligations.ModulateLaysOutTheField := by
  intro s t hready hsize hexec n x hn hx hout
  obtain ⟨f, -, rfl⟩ := exec_modulate_of_ready s t hready hexec
  obtain ⟨-, -, hok, -⟩ := hready
  have h := rectFits_of_operandsOk hok
  have hlaid := (layoutField_laid s.cfg s.settings s.analog hsize).laid n hn x hx
  rw [answered_analog, modulateField_analog, paintRows_initIirs, layoutField_initIirs, sample_paintRows_outside, hlaid]
  exact fun x' hx' y hy => h.paintIndex_ne_of_not_inRect n x x' y hx hout hx' hy

/-! ## The whole command (R181, R183, R196, R206) -/

section
variable {s : State} {f : PixelFormat} (hf : pixelFormat? s.settings.format = some f) (h : RectFits s.cfg s.settings)
include hf h

/-- The low-passes after a row, from any history before it (R196, R199, R201). -/
theorem paintRow_filters (coeffs : Iirs) (y : Nat) (acc : Buffer × Iirs) (hy : y < natOf (destHeight s.settings))
    (hcoeffs : iirsReset acc.2 = iirsReset coeffs) :
    (paintRow (paintOf s f) y acc).2 = filteredRow coeffs s y (natOf (destWidth s.cfg s.settings)) := by
  refine loop_rule _ (fun n x => x.2 = filteredRow coeffs s y n) _ 0 (acc.1, iirsReset acc.2) hcoeffs
    fun n x hn hx => ?_
  obtain ⟨b, g⟩ := x
  cases hx
  rw [Nat.zero_add]
  exact congrArg Prod.snd (paintPixel_eq hf h coeffs b n y hn hy)

/-- The low-passes after step 6 are those the last row of the rectangle leaves (R196). -/
theorem paintRows_filters (coeffs : Iirs) (b : Buffer) : (paintRows (paintOf s f) (b, coeffs)).2 =
    filteredRow coeffs s (natOf (destHeight s.settings) - 1) (natOf (destWidth s.cfg s.settings)) := by
  obtain ⟨hh0, -⟩ := rectHeight_range s.settings h.source_h.1
  have hh := destHeight_toInt s.settings
  obtain ⟨n, hn⟩ := Nat.exists_eq_succ_of_ne_zero (by unfold natOf; omega : natOf (destHeight s.settings) ≠ 0)
  have hcoeffs : iirsReset (forRange 0 n (b, coeffs) (paintRow (paintOf s f))).2 = iirsReset coeffs :=
    forRange_rule 0 n (b, coeffs) _ (fun x => iirsReset x.2 = iirsReset coeffs) rfl fun y x _ hy hx => by
      rw [paintRow_filters hf h coeffs y x (by omega) hx, iirsReset_filteredRow]
  have hrows : paintRows (paintOf s f) (b, coeffs) = forRange 0 (n + 1) (b, coeffs) (paintRow (paintOf s f)) :=
    congrArg (fun k => forRange 0 k (b, coeffs) (paintRow (paintOf s f))) hn
  rw [hrows, forRange_snoc 0 n _ _ (Nat.zero_le n), paintRow_filters hf h coeffs n _ (by omega) hcoeffs, hn,
    Nat.succ_sub_one]

end

/-- A bucket of a seeded row is 128 times the bucket of `iccf`, where that is a sample (R206). -/
theorem ccfAt_seedCcf_toInt (c : Config) (iccf : BurstRow) (v k : Nat) (hv : v < ccVper c)
    (hk : AnalogLevel (rowAt iccf k)) : (ccfAt (seedCcf c iccf) v k).toInt = 128 * (rowAt iccf k).toInt := by
  obtain ⟨h0, h1⟩ := hk
  have hrow : ccfAt (seedCcf c iccf) v k = shl (rowAt iccf k) 7 := by
    simp [ccfAt, seedCcf, rowAt, List.getD_eq_getElem?_getD, hv]
  rw [hrow, shl_toInt_of_fits _ _ (by constructor <;> omega), mul_comm]
  rfl

/-- MODULATE writes `analog`, `ccf`, the low-passes, `S_IIRS_INIT` and the response only (R181). -/
theorem sameButModulated_answered (f : PixelFormat) (s : State) :
    SameButModulated s (answered 0 0 (modulateField f (initIirs s))) := by
  rw [initIirs_eq]
  rfl

/-- Settles O30: a ready MODULATE paints with the low-passes of step 1 and seeds `ccf` with the burst of its last
line. -/
theorem modulateCompletes : Obligations.ModulateCompletes := by
  intro s hready
  obtain ⟨t, he⟩ := exec_completes .modulate s
  obtain ⟨f, hf, rfl⟩ := exec_modulate_of_ready s t hready he
  obtain ⟨-, -, hok, -⟩ := hready
  have h := rectFits_of_operandsOk hok
  have hlast : (paintRows (paintOf (initIirs s) f) ((layoutField (initIirs s).cfg (initIirs s).settings
      (initIirs s).analog).1, { y := (initIirs s).iirY, i := (initIirs s).iirI, q := (initIirs s).iirQ })).2 =
      filteredRow (modulateCoeffs s) s ((rectHeight s.settings).toNat - 1) (rectWidth s.cfg s.settings).toNat := by
    rw [paintRows_initIirs, initIirs_eq_modulateCoeffs, paintRows_filters hf h, natOf, natOf, destHeight_toInt,
      destWidth_toInt]
  have hcoeffs := iirsReset_filteredRow (modulateCoeffs s) s ((rectHeight s.settings).toNat - 1)
    (rectWidth s.cfg s.settings).toNat
  refine ⟨_, he, rfl, sameButModulated_answered f s, ?_, ?_, ?_, ?_, ⟨?_, ?_, ?_⟩, ?_, ?_, fun v k hv _ => ?_⟩
  · rw [answered_settings, modulateField_settings, initIirs_settings]
  · rw [answered_iirY, modulateField_iirY, hlast]
    exact congrArg (·.y.c) hcoeffs
  · rw [answered_iirI, modulateField_iirI, hlast]
    exact congrArg (·.i.c) hcoeffs
  · rw [answered_iirQ, modulateField_iirQ, hlast]
    exact congrArg (·.q.c) hcoeffs
  · rw [answered_iirY, modulateField_iirY, hlast]
  · rw [answered_iirI, modulateField_iirI, hlast]
  · rw [answered_iirQ, modulateField_iirQ, hlast]
  · rw [answered_analog, modulateField_analog, size_paintRows, size_layoutField, initIirs_analog]
  · rw [answered_ccf, modulateField_ccf, seedCcf, List.length_replicate, initIirs_cfg]
  · rw [answered_ccf, modulateField_ccf, layoutField_initIirs, initIirs_cfg, ccfAt_seedCcf_toInt _ _ _ _ hv
      (by rw [rowAt_layoutField]; exact analogLevel_burstSample ..), rowAt_layoutField, burstSample_toInt]

end Sys2Proof.Machine
end

section
/-! The entry of DEMODULATE (R211), and the facts of one rule: the horizontal seed (R223, R224), the energy scale
(R218), the bands (R220, R244) and the blend (R240). -/

namespace Sys2Proof.Machine

open Sys2Proof.Claims

/-! ## The entry (R211) -/

/-- A code without bytes per pixel names no format (R124, R125). -/
theorem pixelFormat?_of_bytesPerPixel_zero (code : Word) (h : bytesPerPixel code.toInt = 0) :
    pixelFormat? code = none := by
  cases hf : pixelFormat? code with
  | none => rfl
  | some f =>
    have hzero : f.bytes = 0 := (pixelFormat?_offsets _ f hf).1.trans h
    exact absurd hzero (by cases f <;> decide)

/-- The bytes of the output region over the integers (R88). -/
theorem outputBytes_eq (s : State) (f : PixelFormat) (hf : pixelFormat? s.output.format = some f)
    (hfits : DescriptorFits s.output.outw s.output.outh s.output.format s.output.base) : outputBytes s f =
      (s.output.outw.toInt * s.output.outh.toInt).toNat * bytesPerPixel s.output.format.toInt := by
  obtain ⟨hw, -, hh, -⟩ := hfits
  rw [outputBytes, regionBytes, Int.toNat_mul (by omega) (by omega), (pixelFormat?_offsets _ f hf).1]
  rfl

/-- An output region that a platform's check refuses raises MEM_FAULT (R211). -/
theorem exec_demodulate_of_refused (s : State) (noise : Word) (f : PixelFormat) (hi : s.initialized = true)
    (hn : 0 ≤ noise.toInt) (hf : pixelFormat? s.output.format = some f)
    (hbad : admits s.writable s.output.base.toNat (outputBytes s f) = false ∨
      admits s.readable s.output.base.toNat (outputBytes s f) = false) :
    exec (.demodulate noise) s = .next (faulted .memFault s) := by
  have hn' : ¬ noise.toInt < 0 := not_lt.mpr hn
  rcases hbad with h | h <;> simp [exec, execDemodulate, needsInit, hi, hn', hf, h, raiseFault]

/-- Settles O40: the checks of R211 in their order. -/
theorem demodulateEntry : Obligations.DemodulateEntry := by
  refine ⟨fun s noise hi hn => ?_, fun s noise hi hn hbytes => ?_, fun s noise hi hn hbytes hfits hbad => ?_⟩
  · have hexec : exec (.demodulate noise) s = .next (faulted .illegalOperand s) := by
      simp [exec, execDemodulate, needsInit, hi, hn, raiseFault]
    exact hexec
  · have hf := pixelFormat?_of_bytesPerPixel_zero _ hbytes
    have hn' : ¬ noise.toInt < 0 := not_lt.mpr hn
    have hexec : exec (.demodulate noise) s = .next (answered 0 0 s) := by
      simp [exec, execDemodulate, needsInit, hi, hn', hf, respondOk]
    exact hexec
  · obtain ⟨f, hf⟩ := exists_pixelFormat?_of_bytesPerPixel _ hbytes
    rw [← outputBytes_eq s f hf hfits, ← admits_iff_admitted, ← admits_iff_admitted, Bool.not_eq_true,
      Bool.not_eq_true] at hbad
    exact exec_demodulate_of_refused s noise f hi hn hf hbad

/-- A DEMODULATE that is ready runs its steps (R211). -/
theorem exec_demodulate_of_ready (s t : State) (noise : Word) (h : DemodulateReady s noise)
    (he : exec (.demodulate noise) s = .next t) :
    ∃ f, pixelFormat? s.output.format = some f ∧ t = answered 0 0 (demodulateField f noise s) := by
  obtain ⟨hi, hn, hbytes, hfits, hw, hr⟩ := h
  obtain ⟨f, hf⟩ := exists_pixelFormat?_of_bytesPerPixel _ hbytes
  rw [← outputBytes_eq s f hf hfits, ← admits_iff_admitted] at hw hr
  have hn' : ¬ noise.toInt < 0 := not_lt.mpr hn
  have hexec : exec (.demodulate noise) s = .next (answered 0 0 (demodulateField f noise s)) := by
    simp [exec, execDemodulate, needsInit, hi, hn', hf, hw, hr, respondOk]
  rw [hexec] at he
  exact ⟨f, hf, (Host.Outcome.next.inj he).symm⟩

/-! ## The horizontal seed after the search (R223, R224) -/

/-- The seed moved by an offset, modulo the line (R223, R224). -/
theorem posmod_hsync_toInt (c : Config) (hsync : Word) (i : Int) (h0 : 0 ≤ hsync.toInt) (h1 : hsync.toInt < hres c)
    (hi0 : -2 ^ 22 ≤ i) (hi1 : i ≤ 2 ^ 22) :
    (posmod (hsync + BitVec.ofInt 32 i) (wordOf (hres c))).toInt = (hsync.toInt + i) % hres c := by
  have hsize := hres_cases c
  have hword : (wordOf (hres c)).toInt = hres c := wordOf_toInt _ (by omega)
  have hoff : (BitVec.ofInt 32 i).toInt = i := ofInt_toInt_of_fits i ⟨by omega, by omega⟩
  rw [posmod_toInt _ _ (by omega) (by omega), hword, add_toInt _ _ (by rw [hoff]; constructor <;> omega), hoff]

/-- Settles O45: the three ends of R223 and R224. -/
theorem horizontalSeedAfterSearch : Obligations.HorizontalSeedAfterSearch := by
  intro c hsync h0 h1 hw
  refine ⟨fun hd hit => ?_, fun hd i hi0 hi1 => ?_, fun hd hs => ?_, fun hd hs => ?_⟩
  · simp [hsyncAfter, hd]
  · have hafter : hsyncAfter c hsync (some i) = posmod (hsync + BitVec.ofInt 32 i) (wordOf (hres c)) := by
      simp [hsyncAfter, hd]
    rw [hafter, posmod_hsync_toInt c hsync i h0 h1 (by omega) (by omega)]
  · simp [hsyncAfter, hd, hs]
  · have hafter : hsyncAfter c hsync none = posmod (hsync + BitVec.ofInt 32 c.hsyncWindow) (wordOf (hres c)) := by
      simp [hsyncAfter, hd, hs, wordOf]
    rw [hafter, posmod_hsync_toInt c hsync _ h0 h1 (by omega) (by omega)]

/-! ## The energy scale (R218) -/

/-- The factor of R218 that depends on the noise level. -/
theorem noiseFactor_toInt (noise : Word) (h : 0 ≤ noise.toInt) :
    (128 + tdiv noise 2).toInt = 128 + noise.toInt / 2 := by
  have h128 : (128 : Word).toInt = 128 := rfl
  have h2 : (2 : Word).toInt = 2 := rfl
  have hhalf : (tdiv noise 2).toInt = noise.toInt / 2 := tdiv_toInt_of_nonneg _ _ h (by decide)
  obtain ⟨-, hlt⟩ := fits_toInt noise
  rw [add_toInt _ _ (by rw [h128, hhalf]; constructor <;> omega), h128, hhalf]

/-- A line has an odd number of active samples, so that only a factor 0 makes the scale 0, even where the product
wraps (R14, R218). -/
theorem maxEnergy_ne_zero (c : Config) (noise : Word) (h : 0 ≤ noise.toInt) : maxEnergy c noise ≠ 0 := by
  intro hzero
  have hfactor := noiseFactor_toInt noise h
  obtain ⟨-, hlt⟩ := fits_toInt noise
  have hmul : ((128 + noise.toInt / 2) * avLen c).bmod (2 ^ 32) = 0 := by
    have hint := congrArg BitVec.toInt hzero
    rw [maxEnergy, BitVec.toInt_mul, hfactor, avLen_toInt] at hint
    exact hint
  have hdvd := Int.dvd_of_bmod_eq_zero hmul
  rcases avLen_cases c with hlen | hlen <;> rw [hlen] at hdvd <;> omega

/-- Settles O47: the product does not wrap below 2^22, and is never 0. -/
theorem bloomEnergyScale : Obligations.BloomEnergyScale := by
  intro c noise h0
  refine ⟨fun h1 => ?_, maxEnergy_ne_zero c noise h0⟩
  have hfactor := noiseFactor_toInt noise h0
  have hlen := avLen_cases c
  have hfits : Fits ((128 + noise.toInt / 2) * avLen c) := by
    rcases hlen with h | h <;> rw [h] <;> constructor <;> omega
  have hmul : (maxEnergy c noise).toInt = (128 + noise.toInt / 2) * avLen c := by
    rw [maxEnergy, mul_toInt _ _ (by rw [hfactor, avLen_toInt]; exact hfits), hfactor, avLen_toInt]
  refine ⟨hmul, ?_⟩
  rw [hmul]
  rcases hlen with h | h <;> rw [h] <;> omega

/-! ## The bands (R220, R244) -/

/-- Settles O48: a band of at least 240 rows in all has a row, and its end is the next band's beginning. -/
theorem bandsTileTheOutput : Obligations.BandsTileTheOutput := by
  intro e h0 h1 hoff
  have hf : e.fieldOff.toInt = 0 := congrArg BitVec.toInt hoff
  have hbegin (line : Nat) (hl0 : 21 ≤ line) (hl1 : line < 261) :=
    bandBegin_toInt e line hl0 hl1 (by omega) h1 (by omega) (by omega)
  have hend (line : Nat) (hl0 : 21 ≤ line) (hl1 : line < 261) :=
    bandEnd_toInt e line hl0 hl1 (by omega) h1 (by omega) (by omega)
  have hcut (k : Int) (hk0 : 0 ≤ k) (hk1 : k ≤ 240) : k * e.output.outh.toInt ≤ 240 * e.output.outh.toInt :=
    Int.mul_le_mul_of_nonneg_right hk1 (by omega)
  refine ⟨?_, ?_, fun line hl0 hl1 => ?_, fun line hl0 hl1 => ?_⟩
  · rw [hbegin 21 le_rfl (by decide), hf]
    omega
  · rw [hend 260 (by decide) (by decide), hf]
    omega
  · have hnext : ((line : Int) - 20) * e.output.outh.toInt =
        (line - 21) * e.output.outh.toInt + e.output.outh.toInt := by ring
    have hle := hcut ((line : Int) - 20) (by omega) (by omega)
    rw [hbegin line hl0 hl1, hend line hl0 hl1, hf]
    omega
  · have hle := hcut ((line : Int) - 20) (by omega) (by omega)
    have hcast : ((line + 1 : Nat) : Int) - 21 = line - 20 := by omega
    apply BitVec.eq_of_toInt_eq
    rw [hbegin (line + 1) (by omega) (by omega), hend line hl0 (by omega), hf, hcast]
    omega

/-! ## The blend (R240) -/

/-- Settles O51: both pixels have bytes for channels. -/
theorem blendHalvesEachChannel : Obligations.BlendHalvesEachChannel :=
  fun n o hnr hng hnb hor hog hob => unpackRgb_blendPacked n o ⟨hnr, hng, hnb⟩ ⟨hor, hog, hob⟩

end Sys2Proof.Machine
end

section
/-! The vertical search (R214 to R216) and the burst integrator (R229). -/

namespace Sys2Proof.Machine

open Sys2Proof.Claims

/-! ## One candidate line (R214) -/

theorem sumThrough_range (inp : Buffer) (base j : Nat) :
    -128 * ((j : Int) + 1) ≤ sumThrough inp base j ∧ sumThrough inp base j ≤ 128 * ((j : Int) + 1) := by
  induction j with
  | zero =>
    have := sample_range inp base
    rw [sumThrough]
    omega
  | succ j ih =>
    have := sample_range inp (base + (j + 1))
    rw [sumThrough]
    omega

/-- What the accumulator holds before sample `j`: the running sum so far (R214). -/
def sumUpTo (inp : Buffer) (base : Nat) : Nat → Int
  | 0 => 0
  | j + 1 => sumThrough inp base j

theorem sumThrough_eq_sumUpTo (inp : Buffer) (base j : Nat) :
    sumThrough inp base j = sumUpTo inp base j + (sample inp (base + j)).toInt := by
  cases j with
  | zero => simp [sumThrough, sumUpTo]
  | succ j => rfl

/-- The accumulator after a sample holds the running sum, which no line is long enough to wrap (R214). -/
theorem integrated_toInt (inp : Buffer) (base j : Nat) (acc : Word) (hacc : acc.toInt = sumUpTo inp base j)
    (hj : j < 2 ^ 20) : (acc + sample inp (base + j)).toInt = sumThrough inp base j := by
  have hsum := sumThrough_range inp base j
  rw [sumThrough_eq_sumUpTo, ← hacc] at hsum ⊢
  exact add_toInt _ _ ⟨by omega, by omega⟩

/-- What a line may answer over the samples `j .. j + fuel - 1`: the first at which the sum has reached the limit, or
none where it reaches it at none (R214). -/
def FirstIntegrated (inp : Buffer) (base : Nat) (limit : Int) (j fuel : Nat) : Option Nat → Prop
  | some k => j ≤ k ∧ k < j + fuel ∧ sumThrough inp base k ≤ limit ∧
      ∀ i, j ≤ i → i < k → ¬ sumThrough inp base i ≤ limit
  | none => ∀ k, j ≤ k → k < j + fuel → ¬ sumThrough inp base k ≤ limit

/-- A sample at which the sum has not reached the limit may be put before the others. -/
theorem FirstIntegrated.of_succ {inp : Buffer} {base : Nat} {limit : Int} {j fuel : Nat} {hit : Option Nat}
    (hj : ¬ sumThrough inp base j ≤ limit) (h : FirstIntegrated inp base limit (j + 1) fuel hit) :
    FirstIntegrated inp base limit j (fuel + 1) hit := by
  have hcons (k : Nat) (hk : j ≤ k) : k = j ∨ j + 1 ≤ k := by omega
  cases hit with
  | some k =>
    obtain ⟨hk0, hk1, hreach, hbefore⟩ := h
    refine ⟨by omega, by omega, hreach, fun i hi hik => ?_⟩
    rcases hcons i hi with rfl | hi
    · exact hj
    · exact hbefore i hi hik
  | none =>
    intro k hk0 hk1
    rcases hcons k hk0 with rfl | hk
    · exact hj
    · exact h k hk (by omega)

theorem integrateLine_firstIntegrated (inp : Buffer) (base : Nat) (limit acc : Word) (j fuel : Nat)
    (hacc : acc.toInt = sumUpTo inp base j) (hj : j + fuel ≤ 2 ^ 20) :
    FirstIntegrated inp base limit.toInt j fuel (integrateLine inp base limit fuel j acc) := by
  induction fuel generalizing j acc with
  | zero =>
    intro k hk0 hk1
    omega
  | succ fuel ih =>
    have hsum := integrated_toInt inp base j acc hacc (by omega)
    rw [integrateLine, hsum]
    split
    · next hreach => exact ⟨le_rfl, by omega, hreach, fun i hi hij => by omega⟩
    · next hreach => exact (ih _ (j + 1) hsum (by omega)).of_succ hreach

/-! ## The candidate lines (R214) -/

/-- Candidate line `i` over the integers (R214). -/
def candidateLine (vsync : Word) (i : Int) : Nat := ((vsync.toInt + i) % 262).toNat

theorem vsyncCandidate_eq (vsync : Word) (i : Int) (h0 : 0 ≤ vsync.toInt) (h1 : vsync.toInt < 262) (hi0 : -2 ^ 30 ≤ i)
    (hi1 : i ≤ 2 ^ 30) : vsyncCandidate vsync i = candidateLine vsync i := by
  have hv : (wordOf vres).toInt = 262 := rfl
  have hi : (BitVec.ofInt 32 i).toInt = i := ofInt_toInt_of_fits i ⟨by omega, by omega⟩
  rw [vsyncCandidate, natOf, posmod_toInt _ _ (by decide) (by decide), hv,
    add_toInt _ _ (by rw [hi]; constructor <;> omega), hi, candidateLine]

/-- Whether the sum over candidate line `i` has reached the threshold at sample `j` (R214). -/
def Reaches (c : Config) (inp : Buffer) (vsync : Word) (i : Int) (j : Nat) : Prop :=
  sumThrough inp (candidateLine vsync i * hres c) j ≤ (vsyncLimit c).toInt

/-- What a search over the candidate lines `i .. i + fuel - 1` may answer (R214). -/
def FirstLine (c : Config) (inp : Buffer) (vsync : Word) (i : Int) (fuel : Nat) : Option (Nat × Nat) → Prop
  | some (line, j) => ∃ k, i ≤ k ∧ k < i + fuel ∧ line = candidateLine vsync k ∧ j < hres c ∧
      Reaches c inp vsync k j ∧ (∀ n < j, ¬ Reaches c inp vsync k n) ∧
      ∀ k', i ≤ k' → k' < k → ∀ n < hres c, ¬ Reaches c inp vsync k' n
  | none => ∀ k, i ≤ k → k < i + fuel → ∀ n < hres c, ¬ Reaches c inp vsync k n

/-- A line that does not reach the threshold may be put before the others. -/
theorem FirstLine.of_succ {c : Config} {inp : Buffer} {vsync : Word} {i : Int} {fuel : Nat} {hit : Option (Nat × Nat)}
    (hi : ∀ n < hres c, ¬ Reaches c inp vsync i n) (h : FirstLine c inp vsync (i + 1) fuel hit) :
    FirstLine c inp vsync i (fuel + 1) hit := by
  have hcons (k : Int) (hk : i ≤ k) : k = i ∨ i + 1 ≤ k := by omega
  cases hit with
  | some hit =>
    obtain ⟨k, hk0, hk1, hline, hj, hreach, hfirst, hbefore⟩ := h
    refine ⟨k, by omega, by omega, hline, hj, hreach, hfirst, fun k' hk' hkk => ?_⟩
    rcases hcons k' hk' with rfl | hk'
    · exact hi
    · exact hbefore k' hk' hkk
  | none =>
    intro k hk0 hk1
    rcases hcons k hk0 with rfl | hk
    · exact hi
    · exact h k hk (by omega)

theorem vsyncSearch_firstLine (c : Config) (inp : Buffer) (vsync : Word) (h0 : 0 ≤ vsync.toInt)
    (h1 : vsync.toInt < 262) (fuel : Nat) (i : Int) (hi0 : -2 ^ 30 ≤ i) (hi1 : i + fuel ≤ 2 ^ 30) :
    FirstLine c inp vsync i fuel (vsyncSearch c inp vsync fuel i) := by
  have hlen := hres_cases c
  induction fuel generalizing i with
  | zero =>
    intro k hk0 hk1
    omega
  | succ fuel ih =>
    have hline := integrateLine_firstIntegrated inp (candidateLine vsync i * hres c) (vsyncLimit c) 0 0 (hres c) rfl
      (by omega)
    rw [vsyncSearch, vsyncCandidate_eq vsync i h0 h1 (by omega) (by omega)]
    split
    · next j hj =>
      rw [hj] at hline
      obtain ⟨-, hj1, hreach, hfirst⟩ := hline
      exact ⟨i, le_rfl, by omega, rfl, by omega, hreach, fun n hn => hfirst n (Nat.zero_le n) hn,
        fun k' hk0 hk1 => by omega⟩
    · next hnone =>
      rw [hnone] at hline
      exact (ih (i + 1) (by omega) (by omega)).of_succ fun n hn => hline n (Nat.zero_le n) (by omega)

/-- Settles O41: the search over the whole window answers as `FirstLine` says. -/
theorem verticalSearchFindsTheFirst : Obligations.VerticalSearchFindsTheFirst := by
  intro c inp vsync _ h0 h1 hw limit lineOf reaches
  have h := vsyncSearch_firstLine c inp vsync h0 h1 (2 * c.vsyncWindow) (-(c.vsyncWindow : Int)) (by omega) (by omega)
  cases hhit : vsyncHit c inp vsync with
  | some hit =>
    rw [vsyncHit] at hhit
    rw [hhit] at h
    obtain ⟨k, hk0, hk1, hline, hj, hreach, hfirst, hbefore⟩ := h
    exact ⟨k, hk0, by omega, hline, hj, hreach, hfirst, hbefore⟩
  | none =>
    rw [vsyncHit] at hhit
    rw [hhit] at h
    exact fun k hk0 hk1 => h k hk0 (by omega)

/-! ## The field and the seed (R215, R216) -/

/-- The field parity by doubling instead of halving: a line has an even number of samples (R215, R216). -/
theorem fieldOf_eq_oddField (c : Config) (hit : Option (Nat × Nat)) : fieldOf c hit = oddField c hit := by
  have hlen := hres_cases c
  cases hit with
  | none => rfl
  | some hit =>
    simp only [fieldOf, oddField, decide_eq_decide]
    omega

theorem vsyncAfter_disabled (c : Config) (vsync : Word) (hit : Option (Nat × Nat)) (h : c.doVsync = false) :
    vsyncAfter c vsync hit = 259 := by
  have hseed : vsyncDisabled = 259 := by decide
  simp [vsyncAfter, h, hseed]

theorem vsyncAfter_hit (c : Config) (vsync : Word) (line j : Nat) (h : c.doVsync = true) :
    vsyncAfter c vsync (some (line, j)) = BitVec.ofNat 32 line := by
  simp [vsyncAfter, h, wordOf]

theorem vsyncAfter_keep (c : Config) (vsync : Word) (h : c.doVsync = true) (hs : c.syncFailSlew = false) :
    vsyncAfter c vsync none = vsync := by
  simp [vsyncAfter, h, hs]

/-- With SYNC_FAIL_SLEW the seed is the last line tried (R216). -/
theorem vsyncAfter_slew_toInt (c : Config) (vsync : Word) (h : c.doVsync = true) (hs : c.syncFailSlew = true)
    (h0 : 0 ≤ vsync.toInt) (h1 : vsync.toInt < 262) (hw : c.vsyncWindow < 2 ^ 30) :
    (vsyncAfter c vsync none).toInt = (vsync.toInt + c.vsyncWindow - 1) % 262 := by
  have hv : (wordOf vres).toInt = 262 := rfl
  have hone : (1 : Word).toInt = 1 := rfl
  have hword : (wordOf c.vsyncWindow).toInt = c.vsyncWindow := wordOf_toInt _ (by omega)
  have hsum : (vsync + wordOf c.vsyncWindow).toInt = vsync.toInt + c.vsyncWindow := by
    rw [add_toInt _ _ (by rw [hword]; constructor <;> omega), hword]
  have hafter : vsyncAfter c vsync none = posmod (vsync + wordOf c.vsyncWindow - 1) (wordOf vres) := by
    simp [vsyncAfter, h, hs]
  rw [hafter, posmod_toInt _ _ (by decide) (by decide), hv, sub_toInt _ _ (by rw [hsum, hone]; constructor <;> omega),
    hsum, hone]

/-- Settles O42: the search of the command is over the noisy field it leaves. -/
theorem verticalSeedAfterSearch : Obligations.VerticalSeedAfterSearch := by
  refine ⟨fieldOf_eq_oddField, fun s t noise hready hexec => ?_⟩
  obtain ⟨f, -, rfl⟩ := exec_demodulate_of_ready s t noise hready hexec
  have hv : (answered 0 0 (demodulateField f noise s)).vsync =
      vsyncAfter s.cfg s.vsync (vsyncHit s.cfg (answered 0 0 (demodulateField f noise s)).inp s.vsync) := by
    simp [demodulateField]
  rw [hv]
  refine ⟨fun hd => vsyncAfter_disabled _ _ _ hd, fun hd line j hhit => ?_, fun hd hnone hs => ?_,
    fun hd hnone hs h0 h1 hw => ?_⟩
  · rw [hhit, vsyncAfter_hit _ _ _ _ hd]
  · rw [hnone, vsyncAfter_keep _ _ hd hs]
  · rw [hnone, vsyncAfter_slew_toInt _ _ hd hs h0 h1 hw]

/-! ## The recursive average (R226, R229) -/

/-- One update without wrap: 127 parts in 128 of the old value, truncated, and the sample (R226). -/
theorem averageBurst_toInt (acc v : Word) (hv0 : -127 ≤ v.toInt) (hv1 : v.toInt ≤ 127) (ha0 : -16256 ≤ acc.toInt)
    (ha1 : acc.toInt ≤ 16256) : (averageBurst acc v).toInt = (acc.toInt * 127).tdiv 128 + v.toInt := by
  have h127 : (127 : Word).toInt = 127 := rfl
  have h128 : (128 : Word).toInt = 128 := rfl
  have hdiv : (tdiv (acc * 127) 128).toInt = (acc.toInt * 127).tdiv 128 := by
    rw [tdiv_toInt_of_pos _ _ (by decide), mul_toInt _ _ (by rw [h127]; constructor <;> omega), h127, h128]
  have hrange := tdiv_range (acc.toInt * 127) 128 16129 (by decide) (by omega) (by omega)
  rw [averageBurst, add_toInt _ _ (by rw [hdiv]; constructor <;> omega), hdiv]

theorem averageBurst_range (acc v : Word) (hv0 : -127 ≤ v.toInt) (hv1 : v.toInt ≤ 127) (ha0 : -16256 ≤ acc.toInt)
    (ha1 : acc.toInt ≤ 16256) : -16256 ≤ (averageBurst acc v).toInt ∧ (averageBurst acc v).toInt ≤ 16256 := by
  have hrange := tdiv_range (acc.toInt * 127) 128 16129 (by decide) (by omega) (by omega)
  rw [averageBurst_toInt acc v hv0 hv1 ha0 ha1]
  omega

/-- The accumulator is within `n` of 128 times the sample. -/
def Near (v acc : Word) (n : Int) : Prop := -n ≤ acc.toInt - 128 * v.toInt ∧ acc.toInt - 128 * v.toInt ≤ n

/-- An update outside the band of 127 goes at least one step toward it, and never leaves it. -/
theorem near_averageBurst (acc v : Word) (n : Int) (hv0 : -127 ≤ v.toInt) (hv1 : v.toInt ≤ 127)
    (ha0 : -16256 ≤ acc.toInt) (ha1 : acc.toInt ≤ 16256) (h : Near v acc n) :
    Near v (averageBurst acc v) (max 127 (n - 1)) := by
  obtain ⟨h0, h1⟩ := h
  unfold Near
  rw [averageBurst_toInt acc v hv0 hv1 ha0 ha1, tdiv_eq_ite]
  split <;> omega

/-- The fixed points of an update lie in the band. -/
theorem near_of_averageBurst_eq (acc v : Word) (hv0 : -127 ≤ v.toInt) (hv1 : v.toInt ≤ 127) (ha0 : -16256 ≤ acc.toInt)
    (ha1 : acc.toInt ≤ 16256) (h : averageBurst acc v = acc) : Near v acc 127 := by
  have hint := averageBurst_toInt acc v hv0 hv1 ha0 ha1
  rw [h, tdiv_eq_ite] at hint
  unfold Near
  split at hint <;> omega

/-- After `n` updates the distance is `n` steps smaller, or within the band (R229). -/
theorem near_iterate (acc v : Word) (hv0 : -127 ≤ v.toInt) (hv1 : v.toInt ≤ 127) (ha0 : -16256 ≤ acc.toInt)
    (ha1 : acc.toInt ≤ 16256) (n : Nat) :
    (-16256 ≤ ((fun x => averageBurst x v)^[n] acc).toInt ∧ ((fun x => averageBurst x v)^[n] acc).toInt ≤ 16256) ∧
      Near v ((fun x => averageBurst x v)^[n] acc) (max 127 (32512 - n)) := by
  induction n with
  | zero =>
    refine ⟨⟨ha0, ha1⟩, ?_⟩
    unfold Near
    simp only [Function.iterate_zero, id_eq]
    omega
  | succ n ih =>
    obtain ⟨⟨h0, h1⟩, hnear⟩ := ih
    rw [Function.iterate_succ_apply']
    have hstep := near_averageBurst _ v _ hv0 hv1 h0 h1 hnear
    refine ⟨averageBurst_range _ v hv0 hv1 h0 h1, ?_⟩
    obtain ⟨hlo, hhi⟩ := hstep
    constructor <;> omega

/-! ## The integrator (R229) -/

/-- One update over the integers, for any accumulator. -/
theorem averageBurst_eq_burstUpdate (acc v : Word) : averageBurst acc v = burstUpdate acc v := by
  have h127 : (127 : Word).toInt = 127 := rfl
  have h128 : (128 : Word).toInt = 128 := rfl
  have hdiv : tdiv (acc * 127) 128 = BitVec.ofInt 32 ((wrap32 (acc.toInt * 127)).tdiv 128) := by
    apply eq_ofInt_of_toInt
    rw [tdiv_toInt_of_pos _ _ (by decide), BitVec.toInt_mul, h127, h128]
    rfl
  rw [averageBurst, hdiv, burstUpdate, BitVec.ofInt_add, BitVec.ofInt_toInt]

/-- The integer a sample's index is, for a base in the field (R81, R229). -/
theorem input_add_wordOf (e : Scan) (base : Word) (start : Int) (t : Nat) (hbase : base.toInt = start) (h0 : 0 ≤ start)
    (h1 : start < 2 ^ 20) (ht : t < 2 ^ 20) : e.input (base + wordOf t) = inputAt e.cfg e.inp (start + (t : Nat)) := by
  have hword : (wordOf t).toInt = t := wordOf_toInt t (by omega)
  rw [input_eq_inputAt, add_toInt _ _ (by rw [hbase, hword]; constructor <;> omega), hbase, hword]

/-- How many of the first `n` samples of the burst go to bucket `k`: every fourth, from the first with `t mod 4 = k`. -/
def bucketCount (c : Config) (k n : Nat) : Nat := (n + 3 - (k + 4 - cbBeg c % 4) % 4) / 4

/-- The next sample of the burst goes to its bucket alone (R229). -/
theorem rowAt_integrated (e : Scan) (base : Word) (start : Int) (hbase : base.toInt = start) (h0 : 0 ≤ start)
    (h1 : start < 2 ^ 20) (old row : BurstRow) (n : Nat) (hn : n < 40)
    (h : ∀ k < 4, rowAt row k = Claims.burstBucket e.cfg e.inp start k (rowAt old k) (bucketCount e.cfg k n)) (k : Nat)
    (hk : k < 4) :
    rowAt (rowSet row (cbBeg e.cfg + n) (averageBurst (rowAt row (cbBeg e.cfg + n))
      (e.input (base + wordOf (cbBeg e.cfg + n))))) k =
      Claims.burstBucket e.cfg e.inp start k (rowAt old k) (bucketCount e.cfg k (n + 1)) := by
  have hcb : cbBeg e.cfg = 97 := by
    rcases hres_cases e.cfg with h | h <;> simp [cbBeg, ns2pos, h, fpNs, syncNs, bwNs, lineNs, cbNs, bpNs, avNs]
  have hmod : rowAt row (cbBeg e.cfg + n) = rowAt row ((cbBeg e.cfg + n) % 4) := (rowAt_mod ..).symm
  rw [rowAt_rowSet]
  split
  · next hmine =>
    have hk' : (cbBeg e.cfg + n) % 4 = k := by omega
    have hcount : bucketCount e.cfg k (n + 1) = bucketCount e.cfg k n + 1 := by
      unfold bucketCount
      omega
    have hindex : cbBeg e.cfg + n = cbBeg e.cfg + (k + 4 - cbBeg e.cfg % 4) % 4 + 4 * bucketCount e.cfg k n := by
      unfold bucketCount
      omega
    rw [hmod, hk', h k hk, averageBurst_eq_burstUpdate, hcount, Claims.burstBucket,
      input_add_wordOf e base start _ hbase h0 h1 (by omega), ← hindex]
  · next hother =>
    have hcount : bucketCount e.cfg k (n + 1) = bucketCount e.cfg k n := by
      unfold bucketCount
      omega
    rw [h k hk, hcount]

/-- The whole burst: ten samples to each bucket (R229). -/
theorem rowAt_integrateBurst (e : Scan) (base : Word) (start : Int) (hbase : base.toInt = start) (h0 : 0 ≤ start)
    (h1 : start < 2 ^ 20) (row : BurstRow) (k : Nat) (hk : k < 4) :
    rowAt (integrateBurst e base row) k = Claims.burstBucket e.cfg e.inp start k (rowAt row k) 10 := by
  have hrounds : cbBeg e.cfg + burstLen - cbBeg e.cfg = 40 := Nat.add_sub_cancel_left _ _
  have hzero (k : Nat) : bucketCount e.cfg k 0 = 0 := by
    unfold bucketCount
    omega
  have hten : bucketCount e.cfg k 40 = 10 := by
    unfold bucketCount
    omega
  rw [integrateBurst, forRange, hrounds, ← hten]
  refine loop_rule _ (fun n (x : BurstRow) => ∀ k < 4, rowAt x k =
    Claims.burstBucket e.cfg e.inp start k (rowAt row k) (bucketCount e.cfg k n)) 40 _ row (fun k _ => ?_)
    (fun n x hn hx => rowAt_integrated e base start hbase h0 h1 row x n hn hx) k hk
  rw [hzero]
  rfl

/-- Where a line's burst is read from, over the integers (R221, R229). -/
theorem burstBase_toInt (e : Scan) (line : Nat) (hsync : Word) (hline : line < 262) (hv0 : 0 ≤ e.vsync.toInt)
    (hv1 : e.vsync.toInt < 262) (h0 : 0 ≤ hsync.toInt) (h1 : hsync.toInt < hres e.cfg) :
    (burstBase e line hsync).toInt = burstStart e.cfg e.vsync.toInt hsync.toInt line ∧
      0 ≤ burstStart e.cfg e.vsync.toInt hsync.toInt line ∧
      burstStart e.cfg e.vsync.toInt hsync.toInt line < 2 ^ 20 := by
  have hlen := hres_cases e.cfg
  have hline_range : 0 ≤ (line + e.vsync.toInt) % 262 * (hres e.cfg : Int) ∧
      (line + e.vsync.toInt) % 262 * (hres e.cfg : Int) ≤ 262 * 912 := by
    rcases hlen with h | h <;> rw [h] <;> omega
  have hsignal : (signalLine e line).toInt = (line + e.vsync.toInt) % 262 * hres e.cfg := by
    rw [signalLine_eq_ofInt e line hline hv0 hv1, ofInt_toInt_of_fits _ ⟨by omega, by omega⟩]
  have hmod : (posmod hsync (wordOf ccSamples)).toInt = hsync.toInt % 4 := posmod_toInt _ _ (by decide) (by decide)
  have hsub : (hsync - posmod hsync (wordOf ccSamples)).toInt = hsync.toInt - hsync.toInt % 4 := by
    rw [sub_toInt _ _ (by rw [hmod]; constructor <;> omega), hmod]
  unfold burstStart
  refine ⟨?_, by omega, by omega⟩
  rw [burstBase, add_toInt _ _ (by rw [hsignal, hsub]; constructor <;> omega), hsignal, hsub]

/-- The row a line's burst leaves, by bucket (R229). -/
theorem rowAt_integrateBurst_burstBase (e : Scan) (line : Nat) (hsync : Word) (row : BurstRow) (hline : line < 262)
    (hv0 : 0 ≤ e.vsync.toInt) (hv1 : e.vsync.toInt < 262) (h0 : 0 ≤ hsync.toInt) (h1 : hsync.toInt < hres e.cfg)
    (k : Nat) (hk : k < 4) : rowAt (integrateBurst e (burstBase e line hsync) row) k =
      Claims.burstBucket e.cfg e.inp (burstStart e.cfg e.vsync.toInt hsync.toInt line) k (rowAt row k) 10 := by
  obtain ⟨hbase, hstart0, hstart1⟩ := burstBase_toInt e line hsync hline hv0 hv1 h0 h1
  exact rowAt_integrateBurst e _ _ hbase hstart0 hstart1 row k hk

/-- Settles O46: the range, the band and the samples of the integrator. -/
theorem burstAverageConverges : Obligations.BurstAverageConverges := by
  refine ⟨fun c v hv0 hv1 hc0 hc1 => ?_, fun e line hsync row hline hv0 hv1 h0 h1 k hk =>
    rowAt_integrateBurst_burstBase e line hsync row hline hv0 hv1 h0 h1 k hk⟩
  obtain ⟨hlo, hhi⟩ := averageBurst_range c v hv0 hv1 hc0 hc1
  refine ⟨hlo, hhi, fun hfix => near_of_averageBurst_eq c v hv0 hv1 hc0 hc1 hfix, fun n hn => ?_⟩
  obtain ⟨-, hnear⟩ := near_iterate c v hv0 hv1 hc0 hc1 n
  have hband : max (127 : Int) (32512 - n) = 127 := max_eq_left (by omega)
  rw [hband] at hnear
  exact hnear

end Sys2Proof.Machine
end

section
/-! O53: the rows of the output in memory and their duplication (R88, R242). -/

namespace Sys2Proof.Machine

open Sys2Proof.Claims

/-! ## Where the rows are (R88) -/

theorem rowAddr_succ (e : Scan) (r : Nat) : rowAddr e (r + 1) = rowAddr e r + pitch e := by
  rw [rowAddr, rowAddr, Nat.succ_mul, Nat.add_assoc]

theorem rowAddr_mono (e : Scan) {r r' : Nat} (h : r ≤ r') : rowAddr e r ≤ rowAddr e r' :=
  Nat.add_le_add_left (Nat.mul_le_mul_right _ h) _

/-- A byte of a row lies before the next row. -/
theorem rowAddr_add_lt (e : Scan) {r r' k : Nat} (hk : k < pitch e) (h : r < r') : rowAddr e r + k < rowAddr e r' := by
  have hnext := rowAddr_mono e (r := r + 1) h
  rw [rowAddr_succ] at hnext
  omega

/-! ## Copying one row (R242) -/

/-- A row copy writes no byte outside its row. -/
theorem readByte_copyRow_outside (e : Scan) (r : Nat) (m : Memory) (x : Nat)
    (hx : x < rowAddr e r ∨ rowAddr e (r + 1) ≤ x) : readByte (copyRow e r m) x = readByte m x :=
  forRange_rule 0 (pitch e) m _ (fun y => readByte y x = readByte m x) rfl fun k y _ hk hy => by
    rw [rowAddr_succ] at hx
    rw [readByte_writeByte_ne _ _ _ _ (by omega), hy]

/-- What stands in memory when the first `n` bytes of row `r` are copied from the row before it. -/
structure BytesCopied (e : Scan) (r : Nat) (m : Memory) (n : Nat) (m' : Memory) : Prop where
  canonical : memoryWf m' = true
  copied : ∀ k < n, readByte m' (rowAddr e r + k) = readByte m (rowAddr e (r - 1) + k)
  kept : ∀ x < rowAddr e r, readByte m' x = readByte m x

/-- A row copy makes a row equal to the row before it. -/
theorem bytesCopied_copyRow (e : Scan) (r : Nat) (m : Memory) (hr : 1 ≤ r) (haddr : rowAddr e (r + 1) ≤ addressSpace)
    (hm : memoryWf m = true) : BytesCopied e r m (pitch e) (copyRow e r m) := by
  rw [rowAddr_succ] at haddr
  refine loop_rule _ (BytesCopied e r m) (pitch e) 0 m ⟨hm, fun k hk => absurd hk (Nat.not_lt_zero k), fun _ _ => rfl⟩
    fun n m' hn h => ?_
  rw [Nat.zero_add]
  have hsource : readByte m' (rowAddr e (r - 1) + n) = readByte m (rowAddr e (r - 1) + n) :=
    h.kept _ (rowAddr_add_lt e hn (by omega))
  refine ⟨memoryWf_writeByte _ _ _ (by omega) h.canonical, fun k hk => ?_, fun x hx => ?_⟩
  · rw [readByte_writeByte _ _ _ _ h.canonical]
    split
    · next he =>
      obtain rfl : n = k := by omega
      exact hsource
    · next hne => exact h.copied k (by omega)
  · rw [readByte_writeByte_ne _ _ _ _ (by omega), h.kept x hx]

/-! ## Copying the rows of a band (R242) -/

theorem bit_toNat (b : Bool) : (bit b).toNat = if b then 1 else 0 := by cases b <;> rfl

/-- The duplication writes no byte outside its rows. -/
theorem readByte_duplicateRows_outside (e : Scan) (first last : Nat) (m : Memory) (x : Nat)
    (hx : x < rowAddr e (first + 1) ∨ rowAddr e (last - (bit e.monitor.scanlines).toNat) ≤ x) :
    readByte (duplicateRows e first last m) x = readByte m x :=
  forRange_rule (first + 1) _ m (copyRow e) (fun y => readByte y x = readByte m x) rfl fun r y h0 h1 hy => by
    have hlo := rowAddr_mono e h0
    have hhi := rowAddr_mono e (r := r + 1) h1
    rw [readByte_copyRow_outside _ _ _ _ (by omega), hy]

/-- What stands in memory when `n` rows after row `first` are copied: each equals row `first`. -/
structure RowsCopied (e : Scan) (first : Nat) (m : Memory) (n : Nat) (m' : Memory) : Prop where
  canonical : memoryWf m' = true
  copied : ∀ r, first ≤ r → r ≤ first + n → ∀ k < pitch e,
    readByte m' (rowAddr e r + k) = readByte m (rowAddr e first + k)

/-- The next row of a band. -/
theorem rowsCopied_succ {e : Scan} {first : Nat} {m : Memory} {n : Nat} {m' : Memory}
    (haddr : rowAddr e (first + 1 + n + 1) ≤ addressSpace) (h : RowsCopied e first m n m') :
    RowsCopied e first m (n + 1) (copyRow e (first + 1 + n) m') := by
  have hrow := bytesCopied_copyRow e (first + 1 + n) m' (by omega) haddr h.canonical
  have hprev : first + 1 + n - 1 = first + n := by omega
  refine ⟨hrow.canonical, fun r h0 h1 k hk => ?_⟩
  rcases (by omega : r ≤ first + n ∨ r = first + 1 + n) with hr | rfl
  · rw [hrow.kept _ (rowAddr_add_lt e hk (by omega)), h.copied r h0 hr k hk]
  · rw [hrow.copied k hk, hprev, h.copied _ (by omega) le_rfl k hk]

/-- Every row of a band that ends inside the address space is a copy of its first (R242). -/
theorem rowsCopied_duplicateRows (e : Scan) (first last : Nat) (m : Memory) (haddr : rowAddr e last ≤ addressSpace)
    (hm : memoryWf m = true) :
    RowsCopied e first m (last - (bit e.monitor.scanlines).toNat - (first + 1)) (duplicateRows e first last m) := by
  refine loop_rule _ (RowsCopied e first m) _ (first + 1) m ⟨hm, fun r h0 h1 k _ => ?_⟩ fun n m' hn h => ?_
  · rw [(by omega : r = first)]
  · exact rowsCopied_succ ((rowAddr_mono e (by omega)).trans haddr) h

/-- Settles O53: the copied rows, and the bytes outside them. -/
theorem rowDuplicationCopiesTheRow : Obligations.RowDuplicationCopiesTheRow := by
  intro e first last m hm _ haddr stop
  have hstop : stop = last - (bit e.monitor.scanlines).toNat := by rw [bit_toNat]
  have hrows := rowsCopied_duplicateRows e first last m haddr hm
  rw [← hstop] at hrows
  refine ⟨fun r k h0 h1 hk => hrows.copied r h0.le (by omega) k hk, fun x hx => ?_⟩
  rw [hstop] at hx
  exact readByte_duplicateRows_outside e first last m x hx

end Sys2Proof.Machine
end

section
/-! The noise of DEMODULATE and the ranges it leaves (R212, R246). -/

namespace Sys2Proof.Machine

open Sys2Proof.Claims

/-! ## One noisy sample (R212) -/

/-- One advance of the generator (R212). -/
theorem lcg_toNat (rn : Word) : (lcg rn).toNat = (214019 * rn.toNat + 140327895) % 2 ^ 32 := by
  have hfactor : (214019 : Word).toNat = 214019 := rfl
  have hstep : (140327895 : Word).toNat = 140327895 := rfl
  rw [lcg, BitVec.toNat_add, BitVec.toNat_mul, hfactor, hstep, Nat.mod_add_mod]

/-- The noise term over the integers: only its product can wrap (R212). -/
theorem noiseTerm_toInt (noise rn : Word) : (noiseTerm noise rn).toInt =
    wrap32 ((((rn.toNat / 65536 % 256 : Nat) : Int) - 127) * noise.toInt) / 256 := by
  have h127 : (127 : Word).toInt = 127 := rfl
  have hbyte : (bits rn 23 16).toNat = rn.toNat / 65536 % 256 := bits_toNat rn 23 16
  have hint : (bits rn 23 16).toInt = (rn.toNat / 65536 % 256 : Nat) := by
    rw [BitVec.toInt_eq_toNat_of_lt (by omega), hbyte]
  have hsub : (bits rn 23 16 - 127).toInt = ((rn.toNat / 65536 % 256 : Nat) : Int) - 127 := by
    rw [sub_toInt _ _ (by rw [hint, h127]; constructor <;> omega), hint, h127]
  rw [noiseTerm, asr_toInt, BitVec.toInt_mul, hsub]
  rfl

/-- A noisy sample over the integers (R212). -/
theorem noisySample_toInt (noise rn v : Word) (h0 : -128 ≤ v.toInt) (h1 : v.toInt ≤ 127) :
    (noisySample noise rn v).toInt = noisyValue noise.toInt rn.toNat v.toInt := by
  have hterm := noiseTerm_toInt noise rn
  have hlo : -2 ^ 31 ≤ wrap32 ((((rn.toNat / 65536 % 256 : Nat) : Int) - 127) * noise.toInt) := Int.le_bmod (by decide)
  have hhi : wrap32 ((((rn.toNat / 65536 % 256 : Nat) : Int) - 127) * noise.toInt) < 2 ^ 31 := Int.bmod_lt (by decide)
  rw [noisySample, clamp_toInt _ _ _ (by decide), add_toInt _ _ (by rw [hterm]; constructor <;> omega), hterm]
  rfl

/-! ## The whole field (R212) -/

/-- What the generator and `inp` hold after the first `n` samples (R212). -/
structure Noised (noise : Word) (analog : Buffer) (seed n : Nat) (old : Buffer) (acc : Word × Buffer) : Prop where
  size : acc.2.size = old.size
  generator : acc.1.toNat = noiseSeed seed n
  noisy : ∀ i < n, i < old.size →
    (sample acc.2 i).toInt = noisyValue noise.toInt (noiseSeed seed (i + 1)) (sample analog i).toInt

/-- The next sample (R212). -/
theorem noised_succ {noise : Word} {analog : Buffer} {seed n : Nat} {old inp : Buffer} {rn : Word}
    (h : Noised noise analog seed n old (rn, inp)) :
    Noised noise analog seed (n + 1) old (lcg rn, putSample inp n (noisySample noise (lcg rn) (sample analog n))) := by
  obtain ⟨hsize, hseed, hnoisy⟩ := h
  have hadvance : (lcg rn).toNat = noiseSeed seed (n + 1) := by rw [lcg_toNat, hseed, noiseSeed]
  refine ⟨(size_putSample ..).trans hsize, hadvance, fun i hi hsz => ?_⟩
  rcases Nat.lt_succ_iff_lt_or_eq.mp hi with hlt | rfl
  · exact (congrArg BitVec.toInt (sample_putSample_ne _ _ _ _ (by omega))).trans (hnoisy i hlt hsz)
  · obtain ⟨hr0, hr1⟩ := noisySample_range noise (lcg rn) (sample analog i)
    obtain ⟨ha0, ha1⟩ := sample_range analog i
    rw [sample_putSample, if_pos ⟨rfl, hsz.trans_eq hsize.symm⟩, sext8_setWidth _ (by omega) (by omega),
      noisySample_toInt noise _ _ ha0 ha1, hadvance]

/-- Step 1 over the whole field (R212). -/
theorem noised_addNoise (c : Config) (noise : Word) (analog : Buffer) (rn : Word) (inp : Buffer) :
    Noised noise analog rn.toNat (fieldSize c) inp (addNoise c noise analog (rn, inp)) := by
  refine loop_rule _ (fun n x => Noised noise analog rn.toNat n inp x) (fieldSize c) 0 (rn, inp)
    ⟨rfl, rfl, fun i hi => absurd hi (Nat.not_lt_zero i)⟩ fun n x _ hx => ?_
  rw [Nat.zero_add]
  exact noised_succ hx

/-- What step 1 leaves after a DEMODULATE that runs. -/
theorem noised_demodulate {s t : State} {noise : Word} (hready : DemodulateReady s noise)
    (hexec : exec (.demodulate noise) s = .next t) :
    Noised noise s.analog s.rn.toNat (fieldSize s.cfg) s.inp (t.rn, t.inp) := by
  obtain ⟨f, -, rfl⟩ := exec_demodulate_of_ready s t noise hready hexec
  have hfield := noised_addNoise s.cfg noise s.analog s.rn s.inp
  simpa [demodulateField] using hfield

/-- Settles O38: the generator and the samples after the whole field. -/
theorem demodulateAddsNoise : Obligations.DemodulateAddsNoise := by
  intro s t noise hready hsize hexec
  obtain ⟨-, hseed, hnoisy⟩ := noised_demodulate hready hexec
  exact ⟨hseed, fun i hi => hnoisy i hi (by omega)⟩

/-! ## The ranges (R246) -/

theorem sample_of_size_le (b : Buffer) (i : Nat) (h : b.size ≤ i) : sample b i = 0 := by
  have hnone : b.getD i 0 = 0 := by simp [Array.getD_eq_getD_getElem?, h]
  rw [sample, hnone]
  rfl

theorem noisyValue_range (noise : Int) (rn : Nat) (v : Int) :
    -127 ≤ noisyValue noise rn v ∧ noisyValue noise rn v ≤ 127 := by
  unfold noisyValue
  omega

/-- Every sample of a field that step 1 has gone over is clamped, and the others read 0 (R212, R246). -/
theorem Noised.range {noise : Word} {analog : Buffer} {seed n : Nat} {old : Buffer} {acc : Word × Buffer}
    (h : Noised noise analog seed n old acc) (hn : old.size = n) (i : Nat) :
    -127 ≤ (sample acc.2 i).toInt ∧ (sample acc.2 i).toInt ≤ 127 := by
  by_cases hi : i < n
  · rw [h.noisy i hi (by omega)]
    exact noisyValue_range ..
  · rw [sample_of_size_le acc.2 i (by rw [h.size]; omega)]
    decide

/-- The lines keep a seed in range (R44, R219). -/
theorem hsync_demodLines_range (e : Scan) (c : LineCarry) (h : 0 ≤ c.hsync.toInt ∧ c.hsync.toInt < hres e.cfg) :
    0 ≤ (demodLines e c).hsync.toInt ∧ (demodLines e c).hsync.toInt < hres e.cfg :=
  forRange_rule topLine botLine c (demodLine e) (fun x => 0 ≤ x.hsync.toInt ∧ x.hsync.toInt < hres e.cfg) h
    fun line x _ _ hx => by
      unfold demodLine
      split
      · exact hx
      · exact hsyncAfter_range e.cfg x.hsync _ hx.1 hx.2

/-- Settles O39: the clamp of step 1, the search of step 2 and the searches of the lines keep their ranges. -/
theorem demodulateLeavesBounds : Obligations.DemodulateLeavesBounds := by
  intro s t noise hready hsize h0 h1 hv0 hv1 hexec
  have hinp := (noised_demodulate hready hexec).range hsize
  obtain ⟨f, -, rfl⟩ := exec_demodulate_of_ready s t noise hready hexec
  have hh : 0 ≤ (demodulateField f noise s).hsync.toInt ∧ (demodulateField f noise s).hsync.toInt < hres s.cfg :=
    hsync_demodLines_range _ _ ⟨h0, h1⟩
  have hv : VsyncSeed (demodulateField f noise s).vsync := vsyncSeed_vsyncAfter s.cfg _ s.vsync ⟨hv0, hv1⟩
  exact ⟨hinp, hh.1, hh.2, hv⟩

end Sys2Proof.Machine
end

section
/-! The whole DEMODULATE: the constants of its line loop, the rows of its bands, and what its lines leave alone
(R210, R217, R219, R220, R243, R245). -/

namespace Sys2Proof.Machine

open Sys2Proof.Claims

/-! ## The line loop of the command (R217, R219) -/

/-- The state after steps 1 and 2 (R212 to R216). -/
def seededState (noise : Word) (s : State) : State :=
  { noiseState noise s with vsync := vsyncAfter s.cfg s.vsync (vsyncHit s.cfg (noiseState noise s).inp s.vsync) }

/-- The constants of the line loop of a DEMODULATE (R213 to R218). -/
def commandScan (f : PixelFormat) (noise : Word) (s : State) : Scan :=
  scanOf (demodInput noise s) (seededState noise s) f noise
    (fieldOf s.cfg (vsyncHit s.cfg (noiseState noise s).inp s.vsync))

/-- What the line loop of a DEMODULATE ends with (R219). -/
def commandLines (f : PixelFormat) (noise : Word) (s : State) : LineCarry :=
  demodLines (commandScan f noise s) (carryOf (seededState noise s))

theorem demodulateField_eq (f : PixelFormat) (noise : Word) (s : State) :
    demodulateField f noise s = scanDone (commandLines f noise s) (seededState noise s) := rfl

section
variable (f : PixelFormat) (noise : Word) (s : State)

@[simp] theorem commandScan_cfg : (commandScan f noise s).cfg = s.cfg := rfl
@[simp] theorem commandScan_output : (commandScan f noise s).output = s.output := rfl
@[simp] theorem commandScan_monitor : (commandScan f noise s).monitor = s.monitor := rfl
@[simp] theorem commandScan_format : (commandScan f noise s).format = f := rfl

end

/-- One round for each of the 240 active lines (R10, R219). -/
theorem demodLines_rule (e : Scan) (c : LineCarry) (P : Nat → LineCarry → Prop) (h0 : P 0 c)
    (hstep : ∀ k x, k < 240 → P k x → P (k + 1) (demodLine e (21 + k) x)) : P 240 (demodLines e c) :=
  loop_rule (demodLine e) P 240 21 c h0 hstep

/-! ## The rows of the bands (R217, R220) -/

/-- The output of a scan: a region inside the address space with sizes that INIT accepts, and a field offset inside it
(R48, R89, R217). -/
structure PictureFits (e : Scan) : Prop extends OutputFits e where
  outw : 1 ≤ e.output.outw.toInt ∧ e.output.outw.toInt ≤ 32767
  outh_le : e.output.outh.toInt ≤ 32767
  fieldOff : 0 ≤ e.fieldOff.toInt ∧ e.fieldOff.toInt < e.output.outh.toInt

/-- The first row of the band of active line `k` (R220), past the output for a line that is skipped. -/
def firstRow (e : Scan) (k : Nat) : Nat := k * natOf e.output.outh / 240 + natOf e.fieldOff

/-- One past the last row that active line `k` copies (R242). -/
def copyEnd (e : Scan) (k : Nat) : Nat :=
  min (firstRow e (k + 1)) (natOf e.output.outh) - (bit e.monitor.scanlines).toNat

theorem firstRow_mono (e : Scan) {k k' : Nat} (h : k ≤ k') : firstRow e k ≤ firstRow e k' :=
  Nat.add_le_add_right (Nat.div_le_div_right (Nat.mul_le_mul_right _ h)) _

theorem copyEnd_le (e : Scan) (k : Nat) : copyEnd e k ≤ firstRow e (k + 1) ∧ copyEnd e k ≤ natOf e.output.outh := by
  unfold copyEnd
  omega

/-- The rows of the output end with its region (R88). -/
theorem rowAddr_outh (e : Scan) : rowAddr e (natOf e.output.outh) =
    e.output.base.toNat + natOf e.output.outw * natOf e.output.outh * e.format.bytes := by
  rw [rowAddr, pitch, ← Nat.mul_assoc, Nat.mul_comm (natOf e.output.outh)]

section
variable {e : Scan} (h : PictureFits e)
include h

theorem PictureFits.rowAddr_le (r : Nat) (hr : r ≤ natOf e.output.outh) : rowAddr e r ≤ addressSpace :=
  (rowAddr_mono e hr).trans ((rowAddr_outh e).trans_le h.region)

/-- A boundary of R220's bands as a natural number. -/
theorem PictureFits.firstRow_toInt (k : Nat) :
    (firstRow e k : Int) = (k : Int) * e.output.outh.toInt / 240 + e.fieldOff.toInt := by
  have hrows : (natOf e.output.outh : Int) = e.output.outh.toInt := Int.toNat_of_nonneg (by have := h.rows; omega)
  have hoff : (natOf e.fieldOff : Int) = e.fieldOff.toInt := Int.toNat_of_nonneg h.fieldOff.1
  rw [firstRow, ← hrows, ← hoff]
  push_cast
  rfl

theorem PictureFits.bandBegin_eq (k : Nat) (hk : k < 240) : (bandBegin e (21 + k)).toInt = firstRow e k := by
  have hcast : ((21 + k : Nat) : Int) - 21 = k := by omega
  have hrows := h.rows
  have hle := h.outh_le
  obtain ⟨hoff0, hoff1⟩ := h.fieldOff
  rw [bandBegin_toInt e (21 + k) (by omega) (by omega) (by omega) hle hoff0 (by omega), hcast, h.firstRow_toInt]

theorem PictureFits.bandEnd_eq (k : Nat) (hk : k < 240) :
    (bandEnd e (21 + k)).toInt = min (firstRow e (k + 1) : Int) e.output.outh.toInt := by
  have hcast : ((21 + k : Nat) : Int) - 20 = (k + 1 : Nat) := by omega
  have hrows := h.rows
  have hle := h.outh_le
  obtain ⟨hoff0, hoff1⟩ := h.fieldOff
  rw [bandEnd_toInt e (21 + k) (by omega) (by omega) (by omega) hle hoff0 (by omega), hcast, h.firstRow_toInt]

/-- A line whose band begins past the output changes nothing (R220). -/
theorem PictureFits.demodLine_of_le (k : Nat) (hk : k < 240) (c : LineCarry)
    (hrow : natOf e.output.outh ≤ firstRow e k) : demodLine e (21 + k) c = c := by
  have hbegin := h.bandBegin_eq k hk
  have hrows := h.rows
  exact demodLine_skipped e (21 + k) c (by unfold natOf at hrow; omega)

theorem PictureFits.demodLine_of_lt (k : Nat) (hk : k < 240) (c : LineCarry)
    (hrow : firstRow e k < natOf e.output.outh) : demodLine e (21 + k) c = demodLineBody e (21 + k) c := by
  have hbegin := h.bandBegin_eq k hk
  exact demodLine_not_skipped e (21 + k) c (by unfold natOf at hrow; omega)

/-- The first active line is never skipped (R217, R220). -/
theorem PictureFits.firstRow_zero_lt : firstRow e 0 < natOf e.output.outh := by
  obtain ⟨hoff0, hoff1⟩ := h.fieldOff
  unfold firstRow natOf
  omega

/-! ## What a line writes to memory (R237, R242, R243) -/

/-- The memory a line leaves: its row, resampled, and the copies of that row. -/
theorem PictureFits.demodLineBody_mem (k : Nat) (hk : k < 240) (c : LineCarry) : (demodLineBody e (21 + k) c).mem =
    duplicateRows e (firstRow e k) (min (firstRow e (k + 1)) (natOf e.output.outh))
      (resample e (21 + k) (demodLineBody e (21 + k) c).lb (lineWindow e (21 + k) c) (natOf e.output.outw) 0
        (lineWindow e (21 + k) c).scanL (rowAddr e (firstRow e k)) c.mem) := by
  have hbegin : natOf (bandBegin e (21 + k)) = firstRow e k := by
    rw [natOf, h.bandBegin_eq k hk, Int.toNat_natCast]
  have hend : natOf (bandEnd e (21 + k)) = min (firstRow e (k + 1)) (natOf e.output.outh) := by
    have hrows := h.rows
    rw [natOf, natOf, h.bandEnd_eq k hk]
    omega
  rw [Machine.demodLineBody_mem, hbegin, hend]

end

/-- The pixels of a row are written inside the row (R237). -/
theorem readByte_resample_outside (e : Scan) (line : Nat) (lb : Array Yiq) (w : Window) (fuel px : Nat) (p : Word)
    (addr : Nat) (m : Memory) (x : Nat) (hx : x < addr ∨ addr + fuel * e.format.bytes ≤ x) :
    readByte (resample e line lb w fuel px p addr m) x = readByte m x := by
  induction fuel generalizing px p addr m with
  | zero => rfl
  | succ fuel ih =>
    rw [Nat.succ_mul] at hx
    rw [resample]
    split
    · rw [ih _ _ _ _ (by omega), storePixel, readByte_writePixel_outside _ _ _ _ _ (by omega)]
    · rfl

section
variable {e : Scan} (h : PictureFits e)
include h

/-- A line writes no byte outside its first row and the rows it copies (R237, R242). -/
theorem PictureFits.readByte_demodLine (k : Nat) (hk : k < 240) (c : LineCarry) (x : Nat)
    (hx : firstRow e k < natOf e.output.outh → x < rowAddr e (firstRow e k) ∨
      rowAddr e (max (firstRow e k + 1) (copyEnd e k)) ≤ x) :
    readByte (demodLine e (21 + k) c).mem x = readByte c.mem x := by
  by_cases hrow : firstRow e k < natOf e.output.outh
  · have hx := hx hrow
    have hnext := rowAddr_succ e (firstRow e k)
    have hstep := rowAddr_mono e (le_max_left (firstRow e k + 1) (copyEnd e k))
    have hlast := rowAddr_mono e (le_max_right (firstRow e k + 1) (copyEnd e k))
    have hpitch : natOf e.output.outw * e.format.bytes = pitch e := rfl
    rw [h.demodLine_of_lt k hk c hrow, h.demodLineBody_mem k hk, readByte_duplicateRows_outside,
      readByte_resample_outside]
    · omega
    · rcases hx with hx | hx
      · exact Or.inl (by omega)
      · exact Or.inr (hlast.trans hx)
  · rw [h.demodLine_of_le k hk c (by omega)]

/-- The lines write no byte outside the output region (R243). -/
theorem PictureFits.readByte_demodLines_outside (c : LineCarry) (x : Nat)
    (hx : x < e.output.base.toNat ∨ rowAddr e (natOf e.output.outh) ≤ x) :
    readByte (demodLines e c).mem x = readByte c.mem x := by
  refine demodLines_rule e c (fun _ y => readByte y.mem x = readByte c.mem x) rfl fun k y hk hy => ?_
  rw [h.readByte_demodLine k hk y x fun hrow => ?_, hy]
  have hbase : e.output.base.toNat ≤ rowAddr e (firstRow e k) := Nat.le_add_right _ _
  have hend := rowAddr_mono e (max_le (Nat.succ_le_of_lt hrow) (copyEnd_le e k).2)
  rcases hx with hx | hx
  · exact Or.inl (by omega)
  · exact Or.inr (hend.trans hx)

end

/-! ## The field offset (R217) -/

/-- `ratio` over the integers (R217). -/
theorem ratio_toInt (outh : Word) (h0 : 0 ≤ outh.toInt) (h1 : outh.toInt ≤ 32767) :
    (ratio outh).toInt = (outh.toInt * 65536 / 240 + 32768) / 65536 := by
  have h240 : (wordOf activeLines).toInt = 240 := rfl
  have hround : (32768 : Word).toInt = 32768 := rfl
  have hshl : (shl outh 16).toInt = outh.toInt * 65536 := shl_toInt_of_fits outh 16 ⟨by omega, by omega⟩
  have hdiv : (tdiv (shl outh 16) (wordOf activeLines)).toInt = outh.toInt * 65536 / 240 := by
    rw [tdiv_toInt_of_nonneg _ _ (by omega) (by decide), hshl, h240]
  rw [ratio, asr_toInt, add_toInt _ _ (by rw [hdiv, hround]; constructor <;> omega), hdiv, hround]
  rfl

/-- `field_off` over the integers (R217). -/
theorem fieldOff_toInt (outh : Word) (field : Bool) (h0 : 0 ≤ outh.toInt) (h1 : outh.toInt ≤ 32767) :
    (fieldOff outh field).toInt = if field then (outh.toInt * 65536 / 240 + 32768) / 65536 / 2 else 0 := by
  have h2 : (2 : Word).toInt = 2 := rfl
  have hratio := ratio_toInt outh h0 h1
  have hhalf : (tdiv (ratio outh) 2).toInt = (outh.toInt * 65536 / 240 + 32768) / 65536 / 2 := by
    rw [tdiv_toInt_of_nonneg _ _ (by omega) (by decide), hratio, h2]
  cases field with
  | false => simp [fieldOff, bit]
  | true => simpa [fieldOff, bit] using hhalf

/-! ## What a ready command gives (R210, R211) -/

/-- A word that is not negative is the same natural number either way it is read. -/
theorem toNat_eq_natOf (v : Word) (h : 0 ≤ v.toInt) : v.toNat = natOf v := by
  have hcond := BitVec.toInt_eq_toNat_cond v
  unfold natOf
  split at hcond <;> omega

section
variable {s : State} {noise : Word} {f : PixelFormat} (hready : DemodulateReady s noise)
  (hf : pixelFormat? s.output.format = some f)
include hready

theorem outw_toNat_of_ready : s.output.outw.toNat = natOf s.output.outw :=
  have ⟨_, _, _, ⟨hw, _⟩, _⟩ := hready
  toNat_eq_natOf _ (by omega)

theorem outh_toNat_of_ready : s.output.outh.toNat = natOf s.output.outh :=
  have ⟨_, _, _, ⟨_, _, hh, _⟩, _⟩ := hready
  toNat_eq_natOf _ (by omega)

/-- The model's field offset is that of R217, from the parity of the search (R215 to R217). -/
theorem commandScan_fieldOff : natOf (commandScan f noise s).fieldOff =
    fieldOffset s (answered 0 0 (demodulateField f noise s)) := by
  have ⟨_, _, _, ⟨_, _, hh0, hh1, _⟩, _⟩ := hready
  have hrows : (s.output.outh.toNat : Int) = s.output.outh.toInt := by
    rw [outh_toNat_of_ready hready]
    exact Int.toNat_of_nonneg (by omega)
  have hfield : fieldOf s.cfg (vsyncHit s.cfg (noiseState noise s).inp s.vsync) =
      fieldFound s (answered 0 0 (demodulateField f noise s)) := fieldOf_eq_oddField _ _
  have hoff : (commandScan f noise s).fieldOff =
      fieldOff s.output.outh (fieldFound s (answered 0 0 (demodulateField f noise s))) := by
    rw [← hfield]
    rfl
  rw [natOf, hoff, fieldOff_toInt _ _ (by omega) hh1, fieldOffset]
  split <;> omega

/-- The first rows of the bands as the statements have them (R217, R220). -/
theorem firstRow_of_ready (k : Nat) : firstRow (commandScan f noise s) k =
    k * s.output.outh.toNat / 240 + fieldOffset s (answered 0 0 (demodulateField f noise s)) := by
  rw [firstRow, commandScan_fieldOff hready, outh_toNat_of_ready hready]
  rfl

include hf

/-- A ready command's picture fits its region (R48, R211, R217). -/
theorem pictureFits_of_ready : PictureFits (commandScan f noise s) := by
  have ⟨_, _, _, ⟨hw0, hw1, hh0, hh1, hregion⟩, hwritable, _⟩ := hready
  have hbytes : natOf s.output.outw * natOf s.output.outh * f.bytes =
      (s.output.outw.toInt * s.output.outh.toInt).toNat * bytesPerPixel s.output.format.toInt :=
    outputBytes_eq s f hf ⟨hw0, hw1, hh0, hh1, hregion⟩
  have hoff : (commandScan f noise s).fieldOff.toInt =
      if fieldOf s.cfg (vsyncHit s.cfg (noiseState noise s).inp s.vsync) then
        (s.output.outh.toInt * 65536 / 240 + 32768) / 65536 / 2 else 0 :=
    fieldOff_toInt s.output.outh _ (by omega) hh1
  refine ⟨⟨hh0, ?_⟩, ⟨hw0, hw1⟩, hh1, ?_⟩
  · simp only [commandScan_output, commandScan_format]
    rw [hbytes]
    exact hwritable.1
  · rw [hoff, commandScan_output]
    split <;> omega

/-- The bytes of an output row (R88), with the format's bytes per pixel of R84. -/
theorem pitch_of_ready :
    pitch (commandScan f noise s) = s.output.outw.toNat * bytesPerPixel s.output.format.toInt := by
  rw [outw_toNat_of_ready hready, ← (pixelFormat?_offsets _ f hf).1]
  rfl

theorem rowAddr_of_ready (r : Nat) : rowAddr (commandScan f noise s) r =
    s.output.base.toNat + r * (s.output.outw.toNat * bytesPerPixel s.output.format.toInt) := by
  rw [rowAddr, pitch_of_ready hready hf]
  rfl

end

/-! ## The equalizers (R52, R234) -/

/-- Three equalizers with the same coefficients. -/
structure SameEqualizers (q q' : Equalizers) : Prop where
  y : SameCoefficients q.y q'.y
  i : SameCoefficients q.i q'.i
  q : SameCoefficients q.q q'.q

theorem sameCoefficients_refl (f : Equalizer) : SameCoefficients f f := ⟨rfl, rfl, rfl, rfl, rfl⟩

/-- EQ_RESET keeps the coefficients (R167). -/
theorem sameCoefficients_eqReset (f : Equalizer) : SameCoefficients f (eqReset f) := ⟨rfl, rfl, rfl, rfl, rfl⟩

/-- EQ_RESET leaves nothing but the coefficients (R167). -/
theorem eqReset_eq_of_sameCoefficients {f g : Equalizer} (h : SameCoefficients f g) : eqReset g = eqReset f := by
  obtain ⟨hlf, hhf, h0, h1, h2⟩ := h
  rw [eqReset, eqReset, hlf, hhf, h0, h1, h2]

/-- A line keeps the coefficients (R234, R236). -/
theorem sameEqualizers_demodSamples (e : Scan) (line : Nat) (wave : BurstRow) (pos : Word) (w : Window) (q : Equalizers)
    (lb : Array Yiq) : SameEqualizers q (demodSamples e line wave pos w (q, lb)).1 := by
  refine forRange_rule 0 _ (equalizersReset q, lb) _ (fun x => SameEqualizers q x.1)
    ⟨sameCoefficients_eqReset _, sameCoefficients_eqReset _, sameCoefficients_eqReset _⟩ fun n x _ _ hx => ?_
  exact ⟨sameCoefficients_trans hx.y (sameCoefficients_eqStep _ _),
    sameCoefficients_trans hx.i (sameCoefficients_eqStep _ _),
    sameCoefficients_trans hx.q (sameCoefficients_eqStep _ _)⟩

theorem sameEqualizers_demodLine (e : Scan) (line : Nat) (q : Equalizers) (c : LineCarry) (h : SameEqualizers q c.eqs) :
    SameEqualizers q (demodLine e line c).eqs := by
  have hline : SameEqualizers c.eqs (demodLineBody e line c).eqs := sameEqualizers_demodSamples ..
  unfold demodLine
  split
  · exact h
  · exact ⟨sameCoefficients_trans h.y hline.y, sameCoefficients_trans h.i hline.i, sameCoefficients_trans h.q hline.q⟩

theorem sameEqualizers_demodLines (e : Scan) (c : LineCarry) : SameEqualizers c.eqs (demodLines e c).eqs :=
  forRange_rule topLine botLine c (demodLine e) (fun x => SameEqualizers c.eqs x.eqs)
    ⟨sameCoefficients_refl _, sameCoefficients_refl _, sameCoefficients_refl _⟩
    fun line x _ _ hx => sameEqualizers_demodLine e line c.eqs x hx

/-- No line adds or drops a row of `ccf` (R43). -/
theorem length_ccf_demodLines (e : Scan) (c : LineCarry) : (demodLines e c).ccf.length = c.ccf.length :=
  forRange_rule topLine botLine c (demodLine e) (fun x => x.ccf.length = c.ccf.length) rfl fun line x _ _ hx => by
    unfold demodLine
    split
    · exact hx
    · rw [demodLineBody_ccf, List.length_set, hx]

/-! ## What the whole command leaves alone (R210, R243, R245) -/

/-- Settles O37: the noise keeps the size of `inp`, and the lines keep the coefficients, the rows of `ccf` and every
byte outside the region. -/
theorem demodulateCompletes : Obligations.DemodulateCompletes := by
  intro s noise hready
  obtain ⟨t, he⟩ := exec_completes (.demodulate noise) s
  obtain ⟨hsize, -, -⟩ := noised_demodulate hready he
  obtain ⟨f, hf, rfl⟩ := exec_demodulate_of_ready s t noise hready he
  have heqs : SameEqualizers { y := s.eqY, i := s.eqI, q := s.eqQ } (commandLines f noise s).eqs :=
    sameEqualizers_demodLines (commandScan f noise s) (carryOf (seededState noise s))
  have hccf : (commandLines f noise s).ccf.length = s.ccf.length := length_ccf_demodLines ..
  have hrows : s.output.outw.toNat * bytesPerPixel s.output.format.toInt * s.output.outh.toNat =
      (s.output.outw.toInt * s.output.outh.toInt).toNat * bytesPerPixel s.output.format.toInt := by
    have ⟨_, _, _, ⟨hw, _, hh, _⟩, _⟩ := hready
    rw [outw_toNat_of_ready hready, outh_toNat_of_ready hready, natOf, natOf, Int.toNat_mul (by omega) (by omega),
      Nat.mul_right_comm]
  refine ⟨_, he, rfl, rfl, heqs.y, heqs.i, heqs.q, hsize, hccf, fun a ha => ?_⟩
  refine (pictureFits_of_ready hready hf).readByte_demodLines_outside _ a (ha.imp id fun ha => ?_)
  rw [rowAddr_of_ready hready hf, Nat.mul_comm, commandScan_output, ← outh_toNat_of_ready hready, hrows]
  exact ha

/-- With bands of two rows and `scanlines` a line writes its first row alone (R242, R245). -/
theorem copyEnd_le_of_scanlines (e : Scan) (k : Nat) (hrows : natOf e.output.outh = 480)
    (hscan : e.monitor.scanlines = true) :
    firstRow e k = 2 * k + natOf e.fieldOff ∧ copyEnd e k ≤ firstRow e k + 1 := by
  have hrow (k : Nat) : firstRow e k = 2 * k + natOf e.fieldOff := by
    rw [firstRow, hrows]
    omega
  have hnext := hrow (k + 1)
  rw [copyEnd, bit_toNat, hscan, if_pos rfl, hrow k]
  omega

/-- Settles O55: the first rows of the bands have the parity of the field, and no line writes another row. -/
theorem fieldsInterleave : Obligations.FieldsInterleave := by
  intro s t noise hready hrows hscan hexec pitch r x hr hx hparity
  obtain ⟨f, hf, rfl⟩ := exec_demodulate_of_ready s t noise hready hexec
  have hfits := pictureFits_of_ready (noise := noise) hready hf
  have hpitch := pitch_of_ready (noise := noise) hready hf
  have hoff : natOf (commandScan f noise s).fieldOff =
      if fieldFound s (answered 0 0 (demodulateField f noise s)) then 1 else 0 := by
    rw [commandScan_fieldOff hready, fieldOffset, hrows]
    rfl
  have hoff_le : natOf (commandScan f noise s).fieldOff ≤ 1 := by
    rw [hoff]
    split <;> decide
  rw [← hoff] at hparity
  have haddr : s.output.base.toNat + r * pitch + x = rowAddr (commandScan f noise s) r + x := by
    rw [rowAddr_of_ready hready hf]
  rw [haddr]
  refine demodLines_rule (commandScan f noise s) (carryOf (seededState noise s)) (fun _ y =>
    readByte y.mem (rowAddr (commandScan f noise s) r + x) =
      readByte s.mem (rowAddr (commandScan f noise s) r + x)) rfl fun k y hk hy => ?_
  rw [hfits.readByte_demodLine k hk y _ fun _ => ?_, hy]
  obtain ⟨hrow, hcopy⟩ := copyEnd_le_of_scanlines (commandScan f noise s) k
    (congrArg natOf hrows) hscan
  rw [max_eq_left hcopy]
  rcases lt_or_ge r (firstRow (commandScan f noise s) k) with hlt | hge
  · exact Or.inl (rowAddr_add_lt _ (hx.trans_eq hpitch.symm) hlt)
  · exact Or.inr ((rowAddr_mono _ (by omega)).trans (Nat.le_add_right _ _))

end Sys2Proof.Machine
end

section
/-! O43: the horizontal seed and the rows of `ccf` over the lines of a DEMODULATE (R219 to R229). -/

namespace Sys2Proof.Machine

open Sys2Proof.Claims

/-! ## What the search of a line reads (R81, R221) -/

theorem input_congr {e e' : Scan} (hcfg : e'.cfg = e.cfg) (hinp : e'.inp = e.inp) (idx : Word) :
    e'.input idx = e.input idx := by
  rw [Scan.input, Scan.input, hcfg, hinp]

theorem hsyncSearch_congr {e e' : Scan} (hcfg : e'.cfg = e.cfg) (hinp : e'.inp = e.inp) (origin : Word) (fuel : Nat)
    (i : Int) (acc : Word) : hsyncSearch e' origin fuel i acc = hsyncSearch e origin fuel i acc := by
  induction fuel generalizing i acc with
  | zero => rfl
  | succ fuel ih => simp only [hsyncSearch, input_congr hcfg hinp, hcfg, ih]

/-- The search of a line reads the configuration, the noisy field and the vertical seed (R221). -/
theorem hsyncHit_congr {e e' : Scan} (hcfg : e'.cfg = e.cfg) (hinp : e'.inp = e.inp) (hvsync : e'.vsync = e.vsync)
    (line : Nat) (hsync : Word) : hsyncHit e' line hsync = hsyncHit e line hsync := by
  simp only [hsyncHit, signalLine, hcfg, hvsync, hsyncSearch_congr hcfg hinp]

/-- What R219 to R229 do on a line needs nothing else of the line loop's constants. -/
theorem lineSync_congr {e e' : Scan} (hcfg : e'.cfg = e.cfg) (hinp : e'.inp = e.inp) (hvsync : e'.vsync = e.vsync)
    (houtput : e'.output = e.output) (off line : Nat) (x : Word × List BurstRow) :
    lineSync e' off line x = lineSync e off line x := by
  have hhit : hsyncHit e' = hsyncHit e := funext fun line => funext (hsyncHit_congr hcfg hinp hvsync line)
  cases e
  cases e'
  cases hcfg
  cases hinp
  cases hvsync
  cases houtput
  simp only [lineSync, hhit]

theorem linesSync_congr {e e' : Scan} (hcfg : e'.cfg = e.cfg) (hinp : e'.inp = e.inp) (hvsync : e'.vsync = e.vsync)
    (houtput : e'.output = e.output) (off : Nat) (x : Word × List BurstRow) (n : Nat) :
    linesSync e' off x n = linesSync e off x n := by
  induction n with
  | zero => rfl
  | succ n ih => rw [linesSync, linesSync, ih, lineSync_congr hcfg hinp hvsync houtput]

/-- The lines of the command, by the scan of its searches. -/
theorem linesSync_searchScan (f : PixelFormat) (noise : Word) (s : State) (off : Nat) (x : Word × List BurstRow)
    (n : Nat) : linesSync (searchScan s (answered 0 0 (demodulateField f noise s))) off x n =
      linesSync (commandScan f noise s) off x n :=
  linesSync_congr (e := commandScan f noise s) (e' := searchScan s _) rfl rfl rfl rfl off x n

/-! ## One line (R220 to R229) -/

/-- A row is its four buckets (R43). -/
theorem burstRow_eq_mk (row : BurstRow) : row = #v[rowAt row 0, rowAt row 1, rowAt row 2, rowAt row 3] := by
  ext i hi
  have hi' : i = 0 ∨ i = 1 ∨ i = 2 ∨ i = 3 := by omega
  rcases hi' with rfl | rfl | rfl | rfl <;> rfl

/-- A line that is skipped leaves the seed and the rows as they are (R220). -/
theorem lineSync_of_le (e : Scan) (off line : Nat) (x : Word × List BurstRow)
    (h : e.output.outh.toNat ≤ (line - 21) * e.output.outh.toNat / 240 + off) : lineSync e off line x = x :=
  if_pos h

/-- A line that is not skipped leaves the seed of its search and the row of its burst (R221 to R229). -/
theorem lineSync_of_lt (e : Scan) (off line : Nat) (c : LineCarry)
    (h : (line - 21) * e.output.outh.toNat / 240 + off < e.output.outh.toNat) (hline : line < 262)
    (hv0 : 0 ≤ e.vsync.toInt) (hv1 : e.vsync.toInt < 262) (h0 : 0 ≤ c.hsync.toInt) (h1 : c.hsync.toInt < hres e.cfg) :
    lineSync e off line (c.hsync, c.ccf) = ((demodLineBody e line c).hsync, (demodLineBody e line c).ccf) := by
  obtain ⟨hs0, hs1⟩ := hsyncAfter_range e.cfg c.hsync (hsyncHit e line c.hsync) h0 h1
  have hbucket (row : BurstRow) (k : Nat) (hk : k < 4) :=
    rowAt_integrateBurst_burstBase e line (hsyncAfter e.cfg c.hsync (hsyncHit e line c.hsync)) row hline hv0 hv1 hs0 hs1
      k hk
  rw [demodLineBody_ccf, burstRow, demodLineBody_hsync, burstRow_eq_mk (integrateBurst ..), hbucket _ 0 (by decide),
    hbucket _ 1 (by decide), hbucket _ 2 (by decide), hbucket _ 3 (by decide), burstBucket_eq e line hline hv0 hv1]
  exact if_neg (by omega)

/-- What the first `n` lines of a loop that starts with `c` leave of the seed and the rows (R219). -/
structure Synced (e : Scan) (c : LineCarry) (n : Nat) (x : LineCarry) : Prop where
  range : 0 ≤ x.hsync.toInt ∧ x.hsync.toInt < hres e.cfg
  seeds : (x.hsync, x.ccf) = linesSync e (natOf e.fieldOff) (c.hsync, c.ccf) n

/-- The next line (R219). -/
theorem Synced.succ {e : Scan} {c : LineCarry} {k : Nat} {x : LineCarry} (h : Synced e c k x) (hfits : PictureFits e)
    (hv0 : 0 ≤ e.vsync.toInt) (hv1 : e.vsync.toInt < 262) (hk : k < 240) :
    Synced e c (k + 1) (demodLine e (21 + k) x) := by
  have hrows : e.output.outh.toNat = natOf e.output.outh := toNat_eq_natOf _ (by have := hfits.rows; omega)
  have hrow : (21 + k - 21) * e.output.outh.toNat / 240 + natOf e.fieldOff = firstRow e k := by
    rw [Nat.add_sub_cancel_left, hrows, firstRow]
  by_cases hline : firstRow e k < natOf e.output.outh
  · rw [hfits.demodLine_of_lt k hk x hline]
    refine ⟨hsyncAfter_range _ _ _ h.range.1 h.range.2, ?_⟩
    rw [linesSync, ← h.seeds, lineSync_of_lt e _ _ x (by omega) (by omega) hv0 hv1 h.range.1 h.range.2]
  · rw [hfits.demodLine_of_le k hk x (by omega)]
    refine ⟨h.range, ?_⟩
    rw [linesSync, ← h.seeds, lineSync_of_le _ _ _ _ (by omega)]

/-! ## The whole command -/

/-- Without the horizontal search the first line already leaves the seed 0 (R223). -/
theorem hsync_demodLines_of_disabled {e : Scan} (hfits : PictureFits e) (hd : e.cfg.doHsync = false) (c : LineCarry) :
    (demodLines e c).hsync = 0 := by
  have hrun := demodLines_rule e c (fun n x => 0 < n → x.hsync = 0) (fun h => absurd h (lt_irrefl 0))
    fun k x hk hx _ => ?_
  · exact hrun (by decide)
  · by_cases hline : firstRow e k < natOf e.output.outh
    · rw [hfits.demodLine_of_lt k hk x hline, demodLineBody_hsync]
      simp [hsyncAfter, hd]
    · rw [hfits.demodLine_of_le k hk x (by omega)]
      refine hx (Nat.pos_of_ne_zero ?_)
      rintro rfl
      exact hline hfits.firstRow_zero_lt

/-- The vertical seed that the lines read is in range when the seed before the search was (R44, R246). -/
theorem commandScan_vsync_range (f : PixelFormat) (noise : Word) (s : State) (hv0 : 0 ≤ s.vsync.toInt)
    (hv1 : s.vsync.toInt < 262) :
    0 ≤ (commandScan f noise s).vsync.toInt ∧ (commandScan f noise s).vsync.toInt < 262 :=
  vsyncSeed_vsyncAfter s.cfg _ s.vsync ⟨hv0, hv1⟩

/-- Settles O43: line by line the loop does what `lineSync` says. -/
theorem linesLeaveTheSeedAndTheBurst : Obligations.LinesLeaveTheSeedAndTheBurst := by
  intro s t noise hready hexec
  obtain ⟨f, hf, rfl⟩ := exec_demodulate_of_ready s t noise hready hexec
  have hfits := pictureFits_of_ready (noise := noise) hready hf
  refine ⟨fun h0 h1 hv0 hv1 => ?_, fun hd => hsync_demodLines_of_disabled hfits hd _⟩
  obtain ⟨hvs0, hvs1⟩ := commandScan_vsync_range f noise s hv0 hv1
  have hsynced := demodLines_rule (commandScan f noise s) (carryOf (seededState noise s))
    (Synced (commandScan f noise s) (carryOf (seededState noise s))) ⟨⟨h0, h1⟩, rfl⟩
    fun k x hk hx => hx.succ hfits hvs0 hvs1 hk
  rw [linesSync_searchScan, ← commandScan_fieldOff hready]
  exact hsynced.seeds

end Sys2Proof.Machine
end

section
/-! O56: DEMODULATE is a function of what R210 lets it read (R210, R234, R246). -/

namespace Sys2Proof.Machine

open Sys2Proof.Claims

/-! ## `white_point` is not read (R210) -/

/-- The line loop's constants with another white point. -/
def withWhitePoint (e : Scan) (w : Word) : Scan := { e with monitor := { e.monitor with whitePoint := w } }

section
variable (e : Scan) (w : Word)

theorem resample_withWhitePoint (line : Nat) (lb : Array Yiq) (win : Window) (fuel px : Nat) (p : Word) (addr : Nat)
    (m : Memory) :
    resample (withWhitePoint e w) line lb win fuel px p addr m = resample e line lb win fuel px p addr m := by
  induction fuel generalizing px p addr m with
  | zero => rfl
  | succ fuel ih =>
    rw [resample, resample]
    split
    · exact ih _ _ _ _
    · rfl

theorem hsyncHit_withWhitePoint (line : Nat) (hsync : Word) :
    hsyncHit (withWhitePoint e w) line hsync = hsyncHit e line hsync :=
  hsyncHit_congr (e := e) (e' := withWhitePoint e w) rfl rfl rfl line hsync

/-- No step of a line reads the white point. -/
theorem demodLineBody_withWhitePoint (line : Nat) (c : LineCarry) :
    demodLineBody (withWhitePoint e w) line c = demodLineBody e line c := by
  rw [demodLineBody, hsyncHit_withWhitePoint, resample_withWhitePoint]
  rfl

theorem demodLines_withWhitePoint (c : LineCarry) : demodLines (withWhitePoint e w) c = demodLines e c := by
  have hline : demodLine (withWhitePoint e w) = demodLine e := by
    funext line c
    rw [demodLine, demodLineBody_withWhitePoint]
    rfl
  rw [demodLines, hline, demodLines]

end

/-! ## The stage memory of the equalizers is not read (R234) -/

/-- The reset at the start of a line leaves nothing of the stage memory (R167, R234). -/
theorem demodLineBody_of_sameEqualizers (e : Scan) (line : Nat) (c : LineCarry) (q : Equalizers)
    (h : SameEqualizers c.eqs q) : demodLineBody e line { c with eqs := q } = demodLineBody e line c := by
  have hreset : equalizersReset q = equalizersReset c.eqs := by
    rw [equalizersReset, equalizersReset, eqReset_eq_of_sameCoefficients h.y, eqReset_eq_of_sameCoefficients h.i,
      eqReset_eq_of_sameCoefficients h.q]
  simp only [demodLineBody, demodSamples, hreset]

/-- The first line is not skipped, so that no line sees the stage memory the loop starts with (R220, R234). -/
theorem demodLines_of_sameEqualizers {e : Scan} (hfits : PictureFits e) (c : LineCarry) (q : Equalizers)
    (h : SameEqualizers c.eqs q) : demodLines e { c with eqs := q } = demodLines e c := by
  have hfirst (c : LineCarry) : demodLines e c = loop (demodLine e) 239 22 (demodLineBody e 21 c) := by
    rw [← hfits.demodLine_of_lt 0 (by decide) c hfits.firstRow_zero_lt]
    rfl
  rw [hfirst, hfirst, demodLineBody_of_sameEqualizers e 21 c q h]

/-! ## `inp` is written whole (R212) -/

theorem sext8_inj {a b : Sample} (h : sext8 a = sext8 b) : a = b := by
  apply BitVec.eq_of_toInt_eq
  have hint := congrArg BitVec.toInt h
  rwa [sext8, sext8, BitVec.toInt_signExtend_of_le (by decide), BitVec.toInt_signExtend_of_le (by decide)] at hint

/-- Buffers of one size with the same samples are equal (R41). -/
theorem buffer_ext {a b : Buffer} (hsize : a.size = b.size) (h : ∀ i < b.size, sample a i = sample b i) : a = b := by
  refine Array.ext hsize fun i ha hb => sext8_inj ?_
  have hi := h i hb
  simpa [sample, Array.getD_eq_getD_getElem?, ha, hb] using hi

/-- Two fields that step 1 has gone over from the same seed and the same samples are equal (R212). -/
theorem Noised.unique {noise : Word} {analog : Buffer} {seed n : Nat} {old old' : Buffer} {acc acc' : Word × Buffer}
    (h : Noised noise analog seed n old acc) (h' : Noised noise analog seed n old' acc') (hn : old.size = n)
    (hn' : old'.size = n) : acc' = acc := by
  have hrn : acc'.1 = acc.1 := BitVec.eq_of_toNat_eq (h'.generator.trans h.generator.symm)
  have hinp : acc'.2 = acc.2 := by
    refine buffer_ext (by rw [h.size, h'.size, hn, hn']) fun i hi => BitVec.eq_of_toInt_eq ?_
    rw [h.size, hn] at hi
    rw [h.noisy i hi (by omega), h'.noisy i hi (by omega)]
  exact Prod.ext hrn hinp

/-- Steps 1 of two states that agree on what DEMODULATE reads (R212). -/
theorem addNoise_of_sameRead {s1 s2 : State} (noise : Word) (h : SameReadByDemodulate s1 s2)
    (h1 : s1.inp.size = fieldSize s1.cfg) (h2 : s2.inp.size = fieldSize s2.cfg) :
    addNoise s2.cfg noise s2.analog (s2.rn, s2.inp) = addNoise s1.cfg noise s1.analog (s1.rn, s1.inp) := by
  obtain ⟨hcfg, hanalog, -, -, -, hrn, -⟩ := h
  rw [hcfg] at h2
  rw [hcfg, hanalog, hrn]
  exact (noised_addNoise s1.cfg noise s1.analog s1.rn s1.inp).unique
    (noised_addNoise s1.cfg noise s1.analog s1.rn s2.inp) h1 h2

/-! ## Two runs (R246) -/

/-- What the free values may depend on is the same (R210, assumption 9). -/
theorem demodInput_of_sameRead {s1 s2 : State} (noise : Word) (h : SameReadByDemodulate s1 s2) :
    demodInput noise s2 = demodInput noise s1 := by
  obtain ⟨hcfg, hanalog, hccf, hhsync, hvsync, hrn, hmonitor, houtput, hy, hi, hq, hmem⟩ := h
  obtain ⟨w, hmonitor⟩ : ∃ w, s2.monitor = { s1.monitor with whitePoint := w } := ⟨_, hmonitor⟩
  obtain ⟨hylf, hyhf, hy0, hy1, hy2⟩ := hy
  obtain ⟨hilf, hihf, hi0, hi1, hi2⟩ := hi
  obtain ⟨hqlf, hqhf, hq0, hq1, hq2⟩ := hq
  simp only [demodInput, List.flatMap_cons, List.flatMap_nil, hcfg, hanalog, hccf, hhsync, hvsync, hrn, hmonitor,
    houtput, hylf, hyhf, hy0, hy1, hy2, hilf, hihf, hi0, hi1, hi2, hqlf, hqhf, hq0, hq1, hq2, hmem]

section
variable {s1 s2 : State} {noise : Word} (h : SameReadByDemodulate s1 s2) (h1 : s1.inp.size = fieldSize s1.cfg)
  (h2 : s2.inp.size = fieldSize s2.cfg)
include h

/-- The line loops of the two runs start with equalizers of the same coefficients, and with the same everything else. -/
theorem carryOf_of_sameRead : carryOf (seededState noise s2) =
    { carryOf (seededState noise s1) with eqs := { y := s2.eqY, i := s2.eqI, q := s2.eqQ } } := by
  obtain ⟨hcfg, -, hccf, hhsync, -, -, -, -, -, -, -, hmem⟩ := h
  have hc (s : State) : carryOf (seededState noise s) =
    { hsync := s.hsync, ccf := s.ccf, eqs := { y := s.eqY, i := s.eqI, q := s.eqQ }, prevE := 2048,
      lb := emptyLine s.cfg, mem := s.mem } := rfl
  rw [hc, hc, hcfg, hccf, hhsync, hmem]

include h1 h2

/-- The vertical seed after steps 1 and 2 is the same (R212 to R216). -/
theorem seededState_of_sameRead :
    (seededState noise s2).inp = (seededState noise s1).inp ∧ (seededState noise s2).rn = (seededState noise s1).rn ∧
      (seededState noise s2).vsync = (seededState noise s1).vsync := by
  have hnoise := addNoise_of_sameRead noise h h1 h2
  obtain ⟨hcfg, -, -, -, hvsync, -⟩ := h
  rw [hcfg] at hnoise
  simp only [seededState, noiseState_inp, noiseState_rn, hnoise, hcfg, hvsync, and_self]

/-- The line loops of the two runs differ in the white point alone. -/
theorem commandScan_of_sameRead (f : PixelFormat) :
    commandScan f noise s2 = withWhitePoint (commandScan f noise s1) s2.monitor.whitePoint := by
  obtain ⟨hinp, -, hseed⟩ := seededState_of_sameRead (noise := noise) h h1 h2
  have hstart := demodInput_of_sameRead noise h
  have hnoise : (noiseState noise s2).inp = (noiseState noise s1).inp := hinp
  obtain ⟨hcfg, -, -, -, hvsync, -, hmonitor, houtput, -⟩ := h
  have hc (s : State) : (seededState noise s).cfg = s.cfg := rfl
  have hm (s : State) : (seededState noise s).monitor = s.monitor := rfl
  have ho (s : State) : (seededState noise s).output = s.output := rfl
  simp only [commandScan, scanOf, withWhitePoint, hinp, hseed, hstart, hnoise, hc, hm, ho, hcfg, hvsync, houtput]
  rw [hmonitor]

end

/-- Settles O56: the two line loops end the same. -/
theorem demodulateIgnoresUnreadState : Obligations.DemodulateIgnoresUnreadState := by
  intro s1 s2 t1 t2 noise h1 h2 h hready1 hready2 hexec1 hexec2
  obtain ⟨f, hf, rfl⟩ := exec_demodulate_of_ready s1 t1 noise hready1 hexec1
  obtain ⟨f2, hf2, rfl⟩ := exec_demodulate_of_ready s2 t2 noise hready2 hexec2
  have hsame := h
  obtain ⟨-, -, -, -, -, -, -, houtput, hy, hi, hq, -⟩ := hsame
  rw [houtput] at hf2
  cases hf.symm.trans hf2
  obtain ⟨hinp, hrn, hvsync⟩ := seededState_of_sameRead (noise := noise) h h1 h2
  have hlines : commandLines f noise s2 = commandLines f noise s1 := by
    rw [commandLines, commandScan_of_sameRead h h1 h2, demodLines_withWhitePoint, carryOf_of_sameRead h]
    exact demodLines_of_sameEqualizers (pictureFits_of_ready hready1 hf) (carryOf (seededState noise s1)) _ ⟨hy, hi, hq⟩
  rw [demodulateField_eq, demodulateField_eq, hlines]
  exact ⟨hinp, hrn, rfl, hvsync, rfl, rfl, rfl, rfl, rfl⟩

end Sys2Proof.Machine
end

section
/-! O54: the picture a DEMODULATE leaves (R213 to R244). -/

namespace Sys2Proof.Machine

open Sys2Proof.Claims

/-! ## What a line decodes without bloom (R233 to R236) -/

/-- An equalizer fed from EQ_RESET depends on its coefficients only (R167, R234). -/
theorem equalizerFed_of_sameCoefficients {f g : Equalizer} (h : SameCoefficients f g) (input : Nat → Word) (n : Nat) :
    equalizerFed g input n = equalizerFed f input n := by
  induction n with
  | zero =>
    obtain ⟨hlf, hhf, h0, h1, h2⟩ := h
    rw [equalizerFed, equalizerFed, hlf, hhf, h0, h1, h2]
  | succ n ih => rw [equalizerFed, equalizerFed, ih]

/-- So does an entry of the line buffer (R236). -/
theorem decodedEntry_of_sameEqualizers {q q' : Equalizers} (h : SameEqualizers q q') (l : LineSignal) (first n : Nat) :
    decodedEntry l q' first n = decodedEntry l q first n := by
  simp only [decodedEntry, equalizerOutput, equalizerFed_of_sameCoefficients h.y, equalizerFed_of_sameCoefficients h.i,
    equalizerFed_of_sameCoefficients h.q]

theorem scanWindow_of_not_bloom {e : Scan} (hbloom : e.cfg.doBloom = false) (prevE pos : Word) :
    scanWindow e prevE pos = plainWindow e prevE := by
  rw [scanWindow, hbloom]
  rfl

/-- Without bloom a line fills the entries `0 .. AV_LEN - 1` of the line buffer (R233, R236). -/
theorem LineSound.entry {e : Scan} {line : Nat} {c : LineCarry} (h : LineSound e line c)
    (hbloom : e.cfg.doBloom = false) : (demodLineBody e line c).lb.size = c.lb.size ∧ ∀ i < avLen e.cfg,
      (demodLineBody e line c).lb.getD i { y := 0, i := 0, q := 0 } =
        decodedEntry (signalAfter e line (demodLineBody e line c)) c.eqs 0 i := by
  have hwindow : lineWindow e line c = plainWindow e c.prevE := scanWindow_of_not_bloom hbloom _ _
  have hsamples := h.samples (by rw [hwindow]; exact le_rfl)
  rw [hwindow] at hsamples
  obtain ⟨-, hsize, hentry⟩ := hsamples
  refine ⟨hsize, fun i hi => ?_⟩
  have hin : (plainWindow e c.prevE).first.toNat ≤ i ∧ i < (plainWindow e c.prevE).first.toNat +
      ((plainWindow e c.prevE).last - (plainWindow e c.prevE).first).toNat := by
    simp only [plainWindow, Int.toNat_zero]
    omega
  rw [hentry i, if_pos hin]
  rfl

/-! ## One channel of a row (R237 to R241) -/

/-- The three channels of a pixel of a format: the factors of I and Q, and the byte's offset (R84, R239). -/
inductive Channel (code : Int) : Int → Int → Nat → Prop
  | red : Channel code 3879 2556 (redOffset code)
  | green : Channel code (-1126) (-2605) (greenOffset code)
  | blue : Channel code (-4530) 7021 (blueOffset code)

/-- The byte of a channel lies in its pixel (R84). -/
theorem Channel.offset_lt {code : Word} {f : PixelFormat} (hf : pixelFormat? code = some f) {ci cq : Int} {offset : Nat}
    (h : Channel code.toInt ci cq offset) : offset < f.bytes := by
  obtain ⟨-, hr, hg, hb⟩ := pixelFormat?_offsets code f hf
  obtain ⟨hor, hog, hob, -⟩ := offsets_sound f
  cases h with
  | red => exact hr ▸ hor
  | green => exact hg ▸ hog
  | blue => exact hb ▸ hob

/-- The position of pixel `x` of a row without bloom (R233, R237). -/
def plainPosition (c : Config) (outw : Int) (x : Nat) : Int := x * (((avLen c : Int) - 1) * 4096 / outw)

/-- Without bloom no position of a row is right of the last but one entry (R233). -/
theorem plainPosition_range (c : Config) (outw : Int) (x : Nat) (hx : (x : Int) < outw) :
    0 ≤ plainPosition c outw x ∧ plainPosition c outw x < ((avLen c : Int) - 1) * 4096 :=
  mul_ediv_lt _ outw x (by have := avLen_cases c; omega) (by omega) hx

/-- The positions of a row without bloom do not wrap (R233, R237). -/
theorem wrap32_plainPosition {e : Scan} (hfits : PictureFits e) (prevE : Word) (k : Nat)
    (hk : k < natOf e.output.outw) : wrap32 ((plainWindow e prevE).scanL.toInt + k * (plainWindow e prevE).dx.toInt) =
      plainPosition e.cfg e.output.outw.toInt k := by
  obtain ⟨hw0, -⟩ := hfits.outw
  have hlen := avLen_cases e.cfg
  have hscanL : (plainWindow e prevE).scanL.toInt = 0 := rfl
  obtain ⟨hp0, hp1⟩ := plainPosition_range e.cfg e.output.outw.toInt k (by unfold natOf at hk; omega)
  rw [hscanL, plainWindow_dx_toInt e prevE (by omega), zero_add, ← plainPosition]
  exact wrap32_of_fits _ ⟨by omega, by omega⟩

/-- One channel of pixel `x` of a row resampled from the line buffer `lb` without bloom (R233, R237 to R239). -/
def plainChannel (e : Scan) (lb : Array Yiq) (ci cq : Int) (x : Nat) : Int :=
  let p := plainPosition e.cfg e.output.outw.toInt x
  channelValue e.monitor.contrast.toInt ci cq (lb.getD (p / 4096).toNat { y := 0, i := 0, q := 0 })
    (lb.getD ((p / 4096).toNat + 1) { y := 0, i := 0, q := 0 }) p

/-- Without bloom every pixel of a row is stored (R233, R237 to R241). -/
theorem readByte_resample_plain {e : Scan} (hfits : PictureFits e) {code : Word}
    (hcode : pixelFormat? code = some e.format) (line : Nat) (lb : Array Yiq) (prevE : Word) (addr : Nat) (m : Memory)
    (hm : memoryWf m = true) (haddr : addr + pitch e ≤ addressSpace) {ci cq : Int} {offset : Nat}
    (hchannel : Channel code.toInt ci cq offset) (x : Nat) (hx : x < natOf e.output.outw) :
    (readByte (resample e line lb (plainWindow e prevE) (natOf e.output.outw) 0 (plainWindow e prevE).scanL addr m)
      (addr + x * e.format.bytes + offset)).toNat =
      storedByte e.monitor.blend (plainChannel e lb ci cq x)
        (readByte m (addr + x * e.format.bytes + offset)).toNat := by
  have hlen := avLen_cases e.cfg
  have hbytes := (pixelFormat?_offsets code e.format hcode).1
  have hscanR : (plainWindow e prevE).scanR.toInt = ((avLen e.cfg : Int) - 1) * 4096 := scanRight_toInt e.cfg
  have hrange (k : Nat) (hk : k < natOf e.output.outw) :=
    plainPosition_range e.cfg e.output.outw.toInt k (by unfold natOf at hk; omega)
  have hposition := wrap32_plainPosition hfits prevE
  have hstored := resampleStoresEveryPixel e line lb (plainWindow e prevE) (natOf e.output.outw) (natOf e.output.outw)
    addr m code hm hcode (by rw [← hbytes]; exact haddr) le_rfl
    (fun k hk => ((hposition k hk).trans_lt (hrange k hk).2).trans_eq hscanR.symm) (fun h => absurd h (lt_irrefl _))
  obtain ⟨hp0, hp1⟩ := hrange x hx
  have hleft : 0 ≤ plainPosition e.cfg e.output.outw.toInt x / 4096 ∧
      plainPosition e.cfg e.output.outw.toInt x / 4096 ≤ avLen e.cfg := by omega
  have hright : 0 ≤ plainPosition e.cfg e.output.outw.toInt x / 4096 + 1 ∧
      plainPosition e.cfg e.output.outw.toInt x / 4096 + 1 ≤ avLen e.cfg := by omega
  have hnext : (plainPosition e.cfg e.output.outw.toInt x / 4096 + 1).toNat =
      (plainPosition e.cfg e.output.outw.toInt x / 4096).toNat + 1 := by omega
  have hpixel := hstored.1 x hx
  simp only [hposition x hx, if_pos hleft, if_pos hright, hnext, ← hbytes] at hpixel
  obtain ⟨hr, hg, hb⟩ := hpixel
  cases hchannel with
  | red => exact hr
  | green => exact hg
  | blue => exact hb

/-! ## The pixels of the command (R213, R225, R230, R233) -/

/-- The picture of line `k`, from the seed and the row of `ccf` that `y` holds after it, is that of the claim. -/
theorem plainPixel_eq {s : State} {noise : Word} (f : PixelFormat) (hready : DemodulateReady s noise) (k x : Nat)
    (ci cq : Int) {y : LineCarry} (hy : Synced (commandScan f noise s) (carryOf (seededState noise s)) (k + 1) y) :
    plainPixel s (answered 0 0 (demodulateField f noise s)) ci cq k x =
      let l := signalAfter (commandScan f noise s) (21 + k) y
      let eqs := (carryOf (seededState noise s)).eqs
      let p := plainPosition s.cfg s.output.outw.toInt x
      channelValue s.monitor.contrast.toInt ci cq (decodedEntry l eqs 0 (p / 4096).toNat)
        (decodedEntry l eqs 0 ((p / 4096).toNat + 1)) p := by
  have hbright : (commandScan f noise s).bright.toInt = lineBright s.monitor := scanOf_bright_toInt ..
  have hhue : ((commandScan f noise s).huesn.toInt, (commandScan f noise s).huecs.toInt) = hueSines s.monitor :=
    scanOf_hue_toInt ..
  have hline : ((21 + k : Nat) : Int) = 21 + (k : Int) := by push_cast; rfl
  have hseeds : linesSync (commandScan f noise s) (natOf (commandScan f noise s).fieldOff) (s.hsync, s.ccf) (k + 1) =
      (y.hsync, y.ccf) := hy.seeds.symm
  simp only [plainPixel, linesSync_searchScan, ← commandScan_fieldOff hready, hseeds, signalAfter, hbright, hhue, hline]
  rfl

/-! ## The loop, line by line -/

/-- Every line keeps the canonical form of memory (R82). -/
theorem PictureFits.memoryWf_demodLine {e : Scan} (h : PictureFits e) (k : Nat) (hk : k < 240) (c : LineCarry)
    (hm : memoryWf c.mem = true) : memoryWf (demodLine e (21 + k) c).mem = true := by
  by_cases hline : firstRow e k < natOf e.output.outh
  · rw [h.demodLine_of_lt k hk c hline, h.demodLineBody_mem k hk]
    exact memoryWf_duplicateRows h.toOutputFits _ _ _ (min_le_right _ _)
      (memoryWf_resample _ _ _ _ _ _ _ _ _ (h.row _ hline) hm)
  · rwa [h.demodLine_of_le k hk c (by omega)]

/-- The first row of line `k` after the line, without bloom: each byte of a channel is stored over what stood there
(R233, R237 to R241). -/
theorem readByte_demodLine_first {e : Scan} (hfits : PictureFits e) (hbloom : e.cfg.doBloom = false) {code : Word}
    (hcode : pixelFormat? code = some e.format) (k : Nat) (hk : k < 240) (c : LineCarry)
    (hline : firstRow e k < natOf e.output.outh) (hm : memoryWf c.mem = true) {ci cq : Int} {offset : Nat}
    (hchannel : Channel code.toInt ci cq offset) (x : Nat) (hx : x < natOf e.output.outw) :
    (readByte (demodLine e (21 + k) c).mem (rowAddr e (firstRow e k) + x * e.format.bytes + offset)).toNat =
      storedByte e.monitor.blend (plainChannel e (demodLineBody e (21 + k) c).lb ci cq x)
        (readByte c.mem (rowAddr e (firstRow e k) + x * e.format.bytes + offset)).toNat := by
  have hoffset := hchannel.offset_lt hcode
  have hpixel : (x + 1) * e.format.bytes ≤ pitch e := Nat.mul_le_mul_right _ hx
  rw [Nat.succ_mul] at hpixel
  have hwindow : lineWindow e (21 + k) c = plainWindow e c.prevE := scanWindow_of_not_bloom hbloom _ _
  rw [hfits.demodLine_of_lt k hk c hline, hfits.demodLineBody_mem k hk, hwindow,
    readByte_duplicateRows_outside _ _ _ _ _ (Or.inl (by rw [rowAddr_succ]; omega))]
  exact readByte_resample_plain hfits hcode _ _ _ _ _ hm (hfits.row _ hline) hchannel x hx

/-- The first row of another line keeps its bytes (R220, R242, R244). -/
theorem readByte_demodLine_other {e : Scan} (hfits : PictureFits e) (n k : Nat) (hn : n < 240) (c : LineCarry)
    (hne : firstRow e n ≠ firstRow e k) (b : Nat) (hb : b < pitch e) :
    readByte (demodLine e (21 + n) c).mem (rowAddr e (firstRow e k) + b) =
      readByte c.mem (rowAddr e (firstRow e k) + b) := by
  refine hfits.readByte_demodLine n hn c _ fun _ => ?_
  rcases lt_or_gt_of_ne hne with hlt | hgt
  · have hafter : n + 1 ≤ k := by
      by_contra hle
      have := firstRow_mono e (by omega : k ≤ n)
      omega
    have hrow := (copyEnd_le e n).1.trans (firstRow_mono e hafter)
    exact Or.inr ((rowAddr_mono e (max_le hlt hrow)).trans (Nat.le_add_right _ _))
  · exact Or.inl (rowAddr_add_lt e hb hgt)

/-- What a byte of a band's first row holds after `n + 1` lines, by what it holds after `n` (R220, R240). -/
theorem paintedByte_succ {s : State} {noise : Word} {f : PixelFormat} (hready : DemodulateReady s noise)
    (ci cq : Int) (offset r x n : Nat) (hr : r < natOf s.output.outh) :
    paintedByte s (answered 0 0 (demodulateField f noise s)) ci cq offset r x (n + 1) =
      if firstRow (commandScan f noise s) n = r then
        storedByte s.monitor.blend (plainPixel s (answered 0 0 (demodulateField f noise s)) ci cq n x)
          (paintedByte s (answered 0 0 (demodulateField f noise s)) ci cq offset r x n)
      else paintedByte s (answered 0 0 (demodulateField f noise s)) ci cq offset r x n := by
  rw [paintedByte, ← firstRow_of_ready hready, outh_toNat_of_ready hready]
  simp only [hr, and_true]

/-- What the loop of a command without bloom holds after `n` lines (R219): the seeds and the rows of `ccf`, the
coefficients and sizes it starts with, and the bytes painted so far. -/
structure Painting (f : PixelFormat) (noise : Word) (s : State) (n : Nat) (y : LineCarry) : Prop where
  synced : Synced (commandScan f noise s) (carryOf (seededState noise s)) n y
  eqs : SameEqualizers (carryOf (seededState noise s)).eqs y.eqs
  ccfRows : y.ccf.length = ccVper s.cfg
  lbSize : y.lb.size = avLen s.cfg + 1
  canonical : memoryWf y.mem = true
  painted : ∀ k < 240, firstRow (commandScan f noise s) k < natOf s.output.outh → ∀ x < natOf s.output.outw,
    ∀ ci cq offset, Channel s.output.format.toInt ci cq offset →
      (readByte y.mem
        (rowAddr (commandScan f noise s) (firstRow (commandScan f noise s) k) + x * f.bytes + offset)).toNat =
        paintedByte s (answered 0 0 (demodulateField f noise s)) ci cq offset (firstRow (commandScan f noise s) k) x n

section
variable {s : State} {noise : Word} {f : PixelFormat} (hready : DemodulateReady s noise)
  (hf : pixelFormat? s.output.format = some f)
include hready hf

/-- The loop starts with the memory the command finds (R240). -/
theorem painting_zero (hm : memoryWf s.mem = true) (hccf : s.ccf.length = ccVper s.cfg) (h0 : 0 ≤ s.hsync.toInt)
    (h1 : s.hsync.toInt < hres s.cfg) : Painting f noise s 0 (carryOf (seededState noise s)) where
  synced := ⟨⟨h0, h1⟩, rfl⟩
  eqs := ⟨sameCoefficients_refl _, sameCoefficients_refl _, sameCoefficients_refl _⟩
  ccfRows := hccf
  lbSize := Array.size_replicate
  canonical := hm
  painted k _ _ x _ ci cq offset _ := by
    have haddr (r : Nat) : rowAddr (commandScan f noise s) r + x * f.bytes = s.output.base.toNat +
        (r * s.output.outw.toNat + x) * bytesPerPixel s.output.format.toInt := by
      rw [rowAddr_of_ready hready hf, (pixelFormat?_offsets _ f hf).1, Nat.add_mul, Nat.mul_assoc, Nat.add_assoc]
    rw [haddr]
    rfl

/-- The picture of a line that is painted (R233 to R239). -/
theorem Painting.plainChannel_eq (hbloom : s.cfg.doBloom = false) {k : Nat} {y : LineCarry}
    (h : Painting f noise s k y) (hk : k < 240) (hv0 : 0 ≤ s.vsync.toInt) (hv1 : s.vsync.toInt < 262)
    (hline : firstRow (commandScan f noise s) k < natOf s.output.outh) (x : Nat) (hx : x < natOf s.output.outw)
    (ci cq : Int) : plainChannel (commandScan f noise s) (demodLineBody (commandScan f noise s) (21 + k) y).lb ci cq x =
      plainPixel s (answered 0 0 (demodulateField f noise s)) ci cq k x := by
  have hfits := pictureFits_of_ready (noise := noise) hready hf
  have hvsync := commandScan_vsync_range f noise s hv0 hv1
  have hsound : LineSound (commandScan f noise s) (21 + k) y :=
    ⟨⟨by omega, by omega⟩, hvsync, h.synced.range, h.ccfRows, h.lbSize⟩
  have hnext := h.synced.succ hfits hvsync.1 hvsync.2 hk
  rw [hfits.demodLine_of_lt k hk y hline] at hnext
  have hlen := avLen_cases s.cfg
  have hwide : (x : Int) < s.output.outw.toInt := by unfold natOf at hx; omega
  obtain ⟨hp0, hp1⟩ := plainPosition_range s.cfg s.output.outw.toInt x hwide
  have hentry := (hsound.entry hbloom).2
  rw [plainPixel_eq f hready k x ci cq hnext]
  simp only [plainChannel, commandScan_cfg, commandScan_output, commandScan_monitor] at hentry ⊢
  rw [hentry _ (by omega), hentry _ (by omega), decodedEntry_of_sameEqualizers h.eqs,
    decodedEntry_of_sameEqualizers h.eqs]

/-- The next line (R219, R220). -/
theorem Painting.succ (hbloom : s.cfg.doBloom = false) {n : Nat} {y : LineCarry} (h : Painting f noise s n y)
    (hn : n < 240) (hv0 : 0 ≤ s.vsync.toInt) (hv1 : s.vsync.toInt < 262) :
    Painting f noise s (n + 1) (demodLine (commandScan f noise s) (21 + n) y) := by
  have hfits := pictureFits_of_ready (noise := noise) hready hf
  have hvsync := commandScan_vsync_range f noise s hv0 hv1
  have hsound : LineSound (commandScan f noise s) (21 + n) y :=
    ⟨⟨by omega, by omega⟩, hvsync, h.synced.range, h.ccfRows, h.lbSize⟩
  refine ⟨h.synced.succ hfits hvsync.1 hvsync.2 hn, sameEqualizers_demodLine _ _ _ _ h.eqs, ?_, ?_,
    hfits.memoryWf_demodLine n hn y h.canonical, fun k hk hrow x hx ci cq offset hchannel => ?_⟩
  · unfold demodLine
    split
    · exact h.ccfRows
    · rw [demodLineBody_ccf, List.length_set, h.ccfRows]
  · unfold demodLine
    split
    · exact h.lbSize
    · exact (hsound.entry hbloom).1.trans h.lbSize
  · have hbefore := h.painted k hk hrow x hx ci cq offset hchannel
    rw [paintedByte_succ hready _ _ _ _ _ _ hrow, ← hbefore]
    split
    · next heq =>
      rw [← heq] at hrow ⊢
      rw [← h.plainChannel_eq hready hf hbloom hn hv0 hv1 hrow x hx]
      exact readByte_demodLine_first hfits hbloom hf n hn y hrow h.canonical hchannel x hx
    · next hne =>
      have hoffset := hchannel.offset_lt hf
      have hpixel : (x + 1) * f.bytes ≤ pitch (commandScan f noise s) := Nat.mul_le_mul_right _ hx
      rw [Nat.succ_mul] at hpixel
      rw [Nat.add_assoc, readByte_demodLine_other hfits n k hn y hne _ (by omega)]

end

/-! ## The rows of a band (R242) -/

/-- After line `k` the rows strictly inside its band, but for the last with `scanlines`, equal its first row, and no
later line writes to them (R220, R242, R244). -/
theorem readByte_demodLines_band {e : Scan} (hfits : PictureFits e) (c : LineCarry) (hm : memoryWf c.mem = true)
    (k r b : Nat) (hk : k < 240) (hr0 : firstRow e k < r) (hr1 : r < copyEnd e k) (hb : b < pitch e) :
    readByte (demodLines e c).mem (rowAddr e r + b) = readByte (demodLines e c).mem (rowAddr e (firstRow e k) + b) := by
  obtain ⟨hnext, hrows⟩ := copyEnd_le e k
  have hrun := demodLines_rule e c (fun n y => memoryWf y.mem = true ∧ (k < n →
    readByte y.mem (rowAddr e r + b) = readByte y.mem (rowAddr e (firstRow e k) + b)))
    ⟨hm, fun h => absurd h (Nat.not_lt_zero k)⟩ fun n y hn hy => ?_
  · exact hrun.2 hk
  · refine ⟨hfits.memoryWf_demodLine n hn y hy.1, fun hkn => ?_⟩
    rcases Nat.lt_succ_iff_lt_or_eq.mp hkn with hlt | rfl
    · have hlater (r' : Nat) (hr' : r' < firstRow e (k + 1)) :
          readByte (demodLine e (21 + n) y).mem (rowAddr e r' + b) = readByte y.mem (rowAddr e r' + b) :=
        hfits.readByte_demodLine n hn y _ fun _ => Or.inl (rowAddr_add_lt e hb (hr'.trans_le (firstRow_mono e hlt)))
      rw [hlater r (by omega), hlater _ (by omega), hy.2 hlt]
    · have hline : firstRow e k < natOf e.output.outh := by omega
      have hcopied := rowsCopied_duplicateRows e (firstRow e k) (min (firstRow e (k + 1)) (natOf e.output.outh)) _
        (hfits.rowAddr_le _ (min_le_right _ _))
        (memoryWf_resample e (21 + k) (demodLineBody e (21 + k) y).lb (lineWindow e (21 + k) y) (natOf e.output.outw) 0
          (lineWindow e (21 + k) y).scanL (rowAddr e (firstRow e k)) y.mem (hfits.row _ hline) hy.1)
      unfold copyEnd at hr1
      rw [hfits.demodLine_of_lt k hk y hline, hfits.demodLineBody_mem k hk, hcopied.copied r (by omega) (by omega) b hb,
        hcopied.copied _ le_rfl (by omega) b hb]

/-- Settles O54: the first rows are painted line by line, and the other rows repeat them. -/
theorem demodulatePaintsThePicture : Obligations.DemodulatePaintsThePicture := by
  intro s t noise hready hm hexec
  obtain ⟨f, hf, rfl⟩ := exec_demodulate_of_ready s t noise hready hexec
  have hfits := pictureFits_of_ready (noise := noise) hready hf
  have hrows := outh_toNat_of_ready hready
  have hwidth := outw_toNat_of_ready hready
  refine ⟨fun hbloom hccf h0 h1 hv0 hv1 k x hk hrow hx => ?_, fun k r x hk hr0 hr1 hx => ?_⟩
  · have hpainted := (demodLines_rule (commandScan f noise s) (carryOf (seededState noise s)) (Painting f noise s)
      (painting_zero hready hf hm hccf h0 h1) fun n y hn hy => hy.succ hready hf hbloom hn hv0 hv1).painted k hk
    rw [firstRow_of_ready hready, rowAddr_of_ready hready hf, (pixelFormat?_offsets _ f hf).1] at hpainted
    have hpixel := hpainted (hrow.trans_eq hrows) x (hx.trans_eq hwidth)
    exact ⟨hpixel _ _ _ .red, hpixel _ _ _ .green, hpixel _ _ _ .blue⟩
  · have hband := readByte_demodLines_band hfits (carryOf (seededState noise s)) hm k r x hk
      (by rw [firstRow_of_ready hready]; exact hr0)
      (by rw [copyEnd, firstRow_of_ready hready, bit_toNat, commandScan_output, ← hrows]; exact hr1)
      (by rw [pitch_of_ready hready hf]; exact hx)
    rw [rowAddr_of_ready hready hf, rowAddr_of_ready hready hf, firstRow_of_ready hready] at hband
    exact hband

end Sys2Proof.Machine
end

section
/-! INIT, RESIZE, RESET and BPP4FMT (R260 to R267), and the control registers by their numbers (R49, R270, R271). -/

namespace Sys2Proof.Machine

open Sys2Proof.Claims

/-! ## Descriptors (R261, R264) -/

/-- The checks of INIT and RESIZE are those of R261 over the integers. -/
theorem descriptorOk_iff (w h f base : Word) : descriptorOk w h f base = true ↔ DescriptorFits w h f base := by
  refine ⟨fun hok => ?_, descriptorOk_of_fits w h f base⟩
  simp only [descriptorOk, dimOk, Bool.and_eq_true, decide_eq_true_eq] at hok
  obtain ⟨⟨⟨hw0, hw1⟩, hh0, hh1⟩, hregion⟩ := hok
  refine ⟨hw0, hw1, hh0, hh1, ?_⟩
  have hw : (natOf w : Int) = w.toInt := Int.toNat_of_nonneg (by omega)
  have hh : (natOf h : Int) = h.toInt := Int.toNat_of_nonneg (by omega)
  rw [regionBytes, addressSpace, bpp4fmt_eq_bytesPerPixel] at hregion
  rw [← hw, ← hh]
  exact_mod_cast hregion

theorem descriptorOk_eq_false_iff (w h f base : Word) :
    descriptorOk w h f base = false ↔ ¬ DescriptorFits w h f base := by
  rw [← descriptorOk_iff, Bool.not_eq_true]

/-! ## INIT (R261) -/

/-- `2 * (v << 1)` of R166 is `4 * v`. -/
theorem two_mul_shl_one (v : Word) : 2 * shl v 1 = 4 * v := by
  unfold shl
  bv_omega

/-- The setup of an equalizer is that of R262: coefficients, gains, and zero memory. -/
theorem loadedEqualizer_eqSetup (c : Config) (p : EqParams) : LoadedEqualizer c p (eqSetup c p) := by
  simp only [LoadedEqualizer, eqSetup, eqInit, kHz2L, lFreq, Equalizer.zero, two_mul_shl_one]

/-- Settles O14: the state change of INIT zeroes, sets up and seeds as R261 says, behind the descriptor check. -/
theorem initSetsUpTheBlock : Obligations.InitSetsUpTheBlock := by
  refine ⟨fun w h f b s hfits => ?_, fun w h f b s hbad => ?_⟩
  · exact ⟨_, exec_init_of_fits w h f b s hfits, sample_zeroBuffer _, sample_zeroBuffer _,
      (analogField_zeroBuffer s.cfg).1, (inpField_zeroBuffer s.cfg).1, ccfAt_zeroCcf _, length_zeroCcf _,
      loadedEqualizer_eqSetup _ _, loadedEqualizer_eqSetup _ _, loadedEqualizer_eqSetup _ _, rfl⟩
  · have hno := (descriptorOk_eq_false_iff w h f b).mpr hbad
    rcases execInit_cases w h f b s with ⟨hok, _⟩ | ⟨_, he⟩
    · cases hno.symm.trans hok
    · exact he

/-! ## RESIZE, RESET and BPP4FMT (R264, R265, R267) -/

/-- Settles O16: the three ends of RESIZE, told apart by `initialized` and the descriptor check. -/
theorem resizeUpdatesOutputOnly : Obligations.ResizeUpdatesOutputOnly := by
  refine ⟨fun w h f b s hi hfits => ?_, fun w h f b s hi hbad => ?_, fun w h f b s hi => ?_⟩
  · have hok := (descriptorOk_iff w h f b).mpr hfits
    rcases execResize_cases w h f b s with ⟨hi', _⟩ | ⟨_, _, he⟩ | ⟨_, hno, _⟩
    · cases hi.symm.trans hi'
    · exact he
    · cases hok.symm.trans hno
  · have hno := (descriptorOk_eq_false_iff w h f b).mpr hbad
    rcases execResize_cases w h f b s with ⟨hi', _⟩ | ⟨_, hok, _⟩ | ⟨_, _, he⟩
    · cases hi.symm.trans hi'
    · cases hno.symm.trans hok
    · exact he
  · rcases execResize_cases w h f b s with ⟨_, he⟩ | ⟨hi', _⟩ | ⟨hi', _⟩
    · exact he
    · cases hi.symm.trans hi'
    · cases hi.symm.trans hi'

/-- Settles O17: the two ends of RESET, told apart by `initialized`. -/
theorem resetRestoresMonitorDefaults : Obligations.ResetRestoresMonitorDefaults := by
  refine ⟨fun s hi => ?_, fun s hi => ?_⟩ <;> rcases execReset_cases s with ⟨hi', he⟩ | ⟨hi', he⟩
  · cases hi.symm.trans hi'
  · exact he
  · exact he
  · cases hi.symm.trans hi'

/-- Settles O18: the answer is `bpp4fmt`, whose table is R125's. -/
theorem bpp4fmtAnswersForEveryValue : Obligations.Bpp4fmtAnswersForEveryValue := by
  intro f s
  rw [← bpp4fmt_eq_bytesPerPixel]
  rfl

/-! ## The registers by their numbers (R49) -/

/-- The number of a register in the table of R49. -/
def CtlReg.number : CtlReg → Nat
  | .hue => 0x00
  | .saturation => 0x01
  | .brightness => 0x02
  | .contrast => 0x03
  | .blackPoint => 0x04
  | .whitePoint => 0x05
  | .scanlines => 0x06
  | .blend => 0x07
  | .outw => 0x08
  | .outh => 0x09
  | .outFormat => 0x0A
  | .outBase => 0x0B
  | .hsync => 0x0C
  | .vsync => 0x0D
  | .rn => 0x0E
  | .status => 0x0F
  | .sData => 0x10
  | .sFormat => 0x11
  | .sW => 0x12
  | .sH => 0x13
  | .sRaw => 0x14
  | .sAsColor => 0x15
  | .sField => 0x16
  | .sFrame => 0x17
  | .sHue => 0x18
  | .sXoffset => 0x19
  | .sYoffset => 0x1A
  | .sIirsInit => 0x1B
  | .ccf v k => 0x20 + v * 4 + k

theorem ctlReg?_of_le (c : Config) (n : Nat) (hn : n ≤ 0x1B) : ctlReg? c n = namedReg? n :=
  if_neg fun h => by omega

theorem ctlReg?_ccf (c : Config) (v k : Nat) (hv : v < ccVper c) (hk : k < 4) :
    ctlReg? c (0x20 + v * 4 + k) = some (.ccf v k) := by
  have hdiv : (0x20 + v * 4 + k - 0x20) / 4 = v := by omega
  have hmod : (0x20 + v * 4 + k - 0x20) % 4 = k := by omega
  rw [ctlReg?, ccSamples, if_pos ⟨by omega, by omega⟩, hdiv, hmod]

/-- A register number with its register: the number is the register's own, and the 1-bit rows are the flags. -/
theorem ctlReg?_some (c : Config) (n : Nat) (r : CtlReg) (h : ctlReg? c n = some r) :
    r.number = n ∧ (r.isFlag = true ↔ OneBit n) := by
  unfold OneBit
  rcases ctlReg?_cases c n with ⟨_, hnone⟩ | ⟨_, hn | hn, _, _⟩
  · cases hnone.symm.trans h
  · rw [ctlReg?_of_le c n hn] at h
    interval_cases n <;> cases h <;> decide
  · obtain ⟨v, k, hv, hk, rfl⟩ : ∃ v k, v < ccVper c ∧ k < 4 ∧ n = 0x20 + v * 4 + k :=
      ⟨(n - 0x20) / 4, (n - 0x20) % 4, by omega, by omega, by omega⟩
    cases (ctlReg?_ccf c v k hv hk).symm.trans h
    refine ⟨rfl, iff_of_false Bool.noConfusion ?_⟩
    simp only [List.mem_cons, List.not_mem_nil, or_false]
    omega

/-- Two numbers of one register are equal. -/
theorem ctlReg?_inj (c : Config) (m n : Nat) (r : CtlReg) (hm : ctlReg? c m = some r) (hn : ctlReg? c n = some r) :
    m = n :=
  (ctlReg?_some c m r hm).1.symm.trans (ctlReg?_some c n r hn).1

/-- A writable number has a register in every configuration, which SETCTL may write. -/
theorem exists_ctlReg?_of_writable (c : Config) (n : Nat) (h : Claims.Writable n) :
    ∃ r, ctlReg? c n = some r ∧ r.readOnly = false ∧ (r.isFlag = true ↔ OneBit n) := by
  rcases ctlReg?_cases c n with ⟨hno, _⟩ | ⟨r, _, hr, hw⟩
  · unfold Claims.Writable at h
    exact absurd (Or.inl (by omega)) hno
  · exact ⟨r, hr, hw.mpr h, (ctlReg?_some c n r hr).2⟩

/-! ## GETCTL (R271) -/

theorem response_of_readsAs (s t : State) (n : Nat) (v : Word) (hread : ReadsAs s n v)
    (he : exec (.getctl n) s = .next t) : t.response = okResponse v 0 :=
  congrArg State.response (Host.Outcome.next.inj (he.symm.trans hread))

/-- GETCTL reads `v` from a number exactly when the number has a register and `v` is its pattern. -/
theorem readsAs_iff (s : State) (n : Nat) (v : Word) :
    ReadsAs s n v ↔ ∃ r, ctlReg? s.cfg n = some r ∧ readCtl s r = v := by
  rcases execGetctl_cases n s with ⟨hnone, he⟩ | ⟨r, hr, he⟩
  · refine iff_of_false (fun hread => ?_) (by simp [hnone])
    have hresponse := response_of_readsAs s _ n v hread he
    simp [faultResponse, okResponse] at hresponse
  · refine ⟨fun hread => ⟨r, hr, ?_⟩, ?_⟩
    · have hresponse := response_of_readsAs s _ n v hread he
      simpa [okResponse] using hresponse
    · rintro ⟨r', hr', rfl⟩
      cases hr.symm.trans hr'
      exact he

/-- Settles O29: R49's rows one by one, then the window of `ccf`, then the numbers that are in no row. -/
theorem getctlReadsTheTable : Obligations.GetctlReadsTheTable := by
  intro s
  have named (n : Nat) (r : CtlReg) (h : ctlReg? s.cfg n = some r := by rfl) : ReadsAs s n (readCtl s r) :=
    (readsAs_iff s n _).mpr ⟨r, h, rfl⟩
  exact ⟨named _ .hue, named _ .saturation, named _ .brightness, named _ .contrast, named _ .blackPoint,
    named _ .whitePoint, named _ .scanlines, named _ .blend, named _ .outw, named _ .outh, named _ .outFormat,
    named _ .outBase, named _ .hsync, named _ .vsync, named _ .rn, named _ .status, named _ .sData, named _ .sFormat,
    named _ .sW, named _ .sH, named _ .sRaw, named _ .sAsColor, named _ .sField, named _ .sFrame, named _ .sHue,
    named _ .sXoffset, named _ .sYoffset, named _ .sIirsInit,
    fun v k hv hk => named _ (.ccf v k) (ctlReg?_ccf s.cfg v k hv hk),
    fun reg h => (exec_of_not_implemented s reg 0 h).1⟩

/-! ## SETCTL (R270) -/

theorem isBit_iff (v : Word) : isBit v = true ↔ v = 0 ∨ v = 1 := by
  simp [isBit]

/-- An answer changes no register. -/
@[simp] theorem readCtl_answered (r0 r1 : Word) (s : State) (r : CtlReg) :
    readCtl (answered r0 r1 s) r = readCtl s r := by
  cases r <;> rfl

@[simp] theorem writeCtl_cfg (s : State) (v : Word) (r : CtlReg) : (writeCtl s v r).cfg = s.cfg := by
  rw [writeCtl_eq]
  rfl

theorem exec_setctl_of_ctlReg? (s : State) (n : Nat) (v : Word) (r : CtlReg) (hr : ctlReg? s.cfg n = some r) :
    exec (.setctl n v) s = setRegister r v s := by
  rcases execSetctl_cases n v s with ⟨hnone, _⟩ | ⟨r', hr', he⟩
  · cases hnone.symm.trans hr
  · cases hr'.symm.trans hr
    exact he

/-- A number that is not writable is refused, whether it has a register or not. -/
theorem exec_setctl_of_not_writable (s : State) (n : Nat) (v : Word) (h : ¬ Claims.Writable n) :
    exec (.setctl n v) s = .next (faulted .illegalRegister s) := by
  by_cases himp : Implemented s.cfg n
  · exact exec_setctl_of_readOnly s n v himp h
  · exact (exec_of_not_implemented s n v himp).2

theorem exec_setctl_of_illegalValue (s : State) (n : Nat) (v : Word) (hw : Claims.Writable n) (hflag : OneBit n)
    (hv : ¬ (v = 0 ∨ v = 1)) : exec (.setctl n v) s = .next (faulted .illegalOperand s) := by
  obtain ⟨r, hr, hro, hbit⟩ := exists_ctlReg?_of_writable s.cfg n hw
  rw [exec_setctl_of_ctlReg? s n v r hr]
  rcases setRegister_cases r v s with ⟨hro', _⟩ | ⟨_, _, _, he⟩ | ⟨_, hno | hlegal, _⟩
  · cases hro.symm.trans hro'
  · exact he
  · cases hno.symm.trans (hbit.mpr hflag)
  · exact absurd ((isBit_iff v).mp hlegal) hv

/-- A writable number has a register, which takes every value that is legal for it. -/
theorem exec_setctl_of_legalValue (s : State) (n : Nat) (v : Word) (hw : Claims.Writable n)
    (hv : OneBit n → v = 0 ∨ v = 1) :
    ∃ r, ctlReg? s.cfg n = some r ∧ exec (.setctl n v) s = .next (answered 0 0 (writeCtl s v r)) ∧
      readCtl (writeCtl s v r) r = v := by
  obtain ⟨r, hr, hro, hbit⟩ := exists_ctlReg?_of_writable s.cfg n hw
  have hlegal : r.isFlag = true → isBit v = true := fun hflag => (isBit_iff v).mpr (hv (hbit.mp hflag))
  refine ⟨r, hr, ?_, readCtl_writeCtl_same s v r hro hlegal⟩
  rw [exec_setctl_of_ctlReg? s n v r hr]
  rcases setRegister_cases r v s with ⟨hro', _⟩ | ⟨_, hflag, hbad, _⟩ | ⟨_, _, he⟩
  · cases hro.symm.trans hro'
  · cases hbad.symm.trans (hlegal hflag)
  · exact he

/-- Settles O28: the register that SETCTL writes is that of its number, and another number has another register. -/
theorem setctlWritesOneRegister : Obligations.SetctlWritesOneRegister := by
  refine fun reg v s => ⟨exec_setctl_of_not_writable s reg v, fun hw hflag h0 h1 => ?_, fun hw hv => ?_⟩
  · exact exec_setctl_of_illegalValue s reg v hw hflag (not_or.mpr ⟨h0, h1⟩)
  · obtain ⟨r, hr, he, hread⟩ := exec_setctl_of_legalValue s reg v hw hv
    refine ⟨_, he, rfl, congrArg (answered 0 0) (writeCtl_eq s v r), ?_, fun reg' old hne hold => ?_⟩
    · exact (readsAs_iff _ _ _).mpr ⟨r, by simpa using hr, by simpa using hread⟩
    · obtain ⟨r', hr', rfl⟩ := (readsAs_iff _ _ _).mp hold
      have hregs : r ≠ r' := by
        rintro rfl
        exact hne (ctlReg?_inj s.cfg reg' reg r hr' hr)
      exact (readsAs_iff _ _ _).mpr ⟨r', by simpa using hr', by simpa using readCtl_writeCtl_other s v r r' hregs⟩

end Sys2Proof.Machine
end

section
/-! The exceptions of 60_exceptions.md: a faulted block, what a faulting command leaves, and the commands that test
`initialized` (R280 to R284). -/

namespace Sys2Proof.Machine

/-! ## A faulted block (R284) -/

/-- A faulted block answers a word with its cause and does not decode it (R284). -/
theorem step_of_faulted (s : State) (w : Word) (rest : List Word) (hreset : s.resetInput = false) (hfault : s.fault ≠ 0)
    (hp : s.port = w :: rest) : step s = .next (refuseFaulted (consume s rest)) := by
  rw [step, accept, hreset, if_neg Bool.false_ne_true, if_neg hfault, acceptFaulted, hp]

/-- Settles O8: a faulted block refuses the word, and of the steps that a faulted block can take, refusing a word
keeps the cause and power-on reset is the other one. -/
theorem faultIsTerminal : Obligations.FaultIsTerminal := by
  refine ⟨step_of_faulted, fun s t hstep hfault hchange => ?_⟩
  rcases step_cases s t hstep with ⟨hreset, _⟩ | ⟨w, rest, _, _, _, rfl⟩ | ⟨_, hnone, _⟩ | ⟨i, rest, _, hnone, _, _⟩
  · exact hreset
  · exact absurd rfl hchange
  · exact absurd hnone hfault
  · exact absurd hnone hfault

/-! ## What a faulting command leaves (R280, R283) -/

@[simp] theorem initCrt_fault (w h f b : Word) (s : State) : (initCrt w h f b s).fault = s.fault := by
  simp [initCrt]

@[simp] theorem writeCtl_fault (s : State) (v : Word) (r : CtlReg) : (writeCtl s v r).fault = s.fault := by
  rw [writeCtl_eq]
  simp

/-- Only `raise Fault` writes the cause register: no effect of a command does (R283). -/
theorem effect_fault {s u : State} {i : Instr} (h : Effect s i u) : u.fault = s.fault := by
  cases h with
  | init => simp
  | resize => simp
  | reset => simp
  | modulateUnsupported => simp
  | modulate => simp
  | demodulateUnsupported => rfl
  | demodulate => simp [demodulateField]
  | bpp4fmt => rfl
  | sincos14 => rfl
  | setctl => simp
  | getctl => rfl

/-- Settles O9: a command that leaves a cause has ended in `raise Fault`, for its effects write no cause. -/
theorem faultsArePrecise : Obligations.FaultsArePrecise := by
  intro i s t hnone hexec hfault
  rcases exec_ends i s t hexec with ⟨c, rfl⟩ | ⟨r0, r1, u, heffect, rfl⟩
  · exact ⟨rfl, code_range c⟩
  · exact absurd ((effect_fault heffect).trans hnone) hfault

/-! ## The commands that test `initialized` (R282) -/

/-- The commands that test `initialized` (R282). -/
def testsInitialized : Instr → Bool
  | .init _ _ _ _ => false
  | .resize _ _ _ _ => true
  | .reset => true
  | .modulate => true
  | .demodulate _ => true
  | .bpp4fmt _ => false
  | .sincos14 _ => false
  | .setctl _ _ => false
  | .getctl _ => false

/-- The test is the first of the command, so that it alone decides (R282). -/
theorem exec_of_not_initialized (i : Instr) (s : State) (htests : testsInitialized i = true)
    (hi : s.initialized = false) : exec i s = .next (faulted .notInitialized s) := by
  have hneeds : needsInit s = true := by simp [needsInit, hi]
  cases i with
  | resize w h f b => exact if_pos hneeds
  | reset => exact if_pos hneeds
  | modulate => exact if_pos hneeds
  | demodulate noise => exact if_pos hneeds
  | _ => cases htests

/-- A command without the test keeps the cause or raises ILLEGAL_REGISTER or ILLEGAL_OPERAND (R281, R282). -/
theorem fault_of_not_testsInitialized (i : Instr) (s t : State) (htests : testsInitialized i = false)
    (h : exec i s = .next t) :
    t.fault = s.fault ∨ t.fault = Cause.illegalRegister.code ∨ t.fault = Cause.illegalOperand.code := by
  cases i with
  | init w hh f b =>
    rcases execInit_cases w hh f b s with ⟨_, he⟩ | ⟨_, he⟩ <;> cases he.symm.trans h
    · exact Or.inl (initCrt_fault w hh f b s)
    · exact Or.inr (Or.inr rfl)
  | bpp4fmt format =>
    cases respondOk_next _ _ _ _ h
    exact Or.inl rfl
  | sincos14 angle =>
    cases respondOk_next _ _ _ _ h
    exact Or.inl rfl
  | setctl reg v =>
    rcases execSetctl_cases reg v s with ⟨_, he⟩ | ⟨r, _, he⟩
    · cases he.symm.trans h
      exact Or.inr (Or.inl rfl)
    · rcases setRegister_cases r v s with ⟨_, hr⟩ | ⟨_, _, _, hr⟩ | ⟨_, _, hr⟩ <;> cases (he.trans hr).symm.trans h
      · exact Or.inr (Or.inl rfl)
      · exact Or.inr (Or.inr rfl)
      · exact Or.inl (writeCtl_fault s v r)
  | getctl reg =>
    rcases execGetctl_cases reg s with ⟨_, he⟩ | ⟨_, _, he⟩ <;> cases he.symm.trans h
    · exact Or.inr (Or.inl rfl)
    · exact Or.inl rfl
  | _ => cases htests

/-- A command without the test does not raise NOT_INITIALIZED (R282). -/
theorem fault_ne_of_not_testsInitialized (i : Instr) (s t : State) (htests : testsInitialized i = false)
    (hs : s.fault ≠ Cause.notInitialized.code) (h : exec i s = .next t) : t.fault ≠ Cause.notInitialized.code := by
  rcases fault_of_not_testsInitialized i s t htests h with hf | hf | hf <;> rw [hf]
  · exact hs
  · decide
  · decide

/-- Settles O10: the four commands that test `initialized`, and the five that do not. -/
theorem uninitializedCommandsFault : Obligations.UninitializedCommandsFault :=
  ⟨fun s hi =>
    ⟨fun w h f b => exec_of_not_initialized (.resize w h f b) s rfl hi, exec_of_not_initialized .reset s rfl hi,
      exec_of_not_initialized .modulate s rfl hi, fun noise => exec_of_not_initialized (.demodulate noise) s rfl hi⟩,
   fun s t hs =>
    ⟨fun w h f b => fault_ne_of_not_testsInitialized (.init w h f b) s t rfl hs,
      fun f => fault_ne_of_not_testsInitialized (.bpp4fmt f) s t rfl hs,
      fun a => fault_ne_of_not_testsInitialized (.sincos14 a) s t rfl hs,
      fun reg v => fault_ne_of_not_testsInitialized (.setctl reg v) s t rfl hs,
      fun reg => fault_ne_of_not_testsInitialized (.getctl reg) s t rfl hs⟩⟩

end Sys2Proof.Machine
end

section
/-! What power-on reset keeps around the block (R300, D10, assumption 6). -/

namespace Sys2Proof.Machine

/-- The reset input is released by the reset itself (assumption 6). -/
@[simp] theorem powerOnReset_resetInput (s : State) : (powerOnReset s).resetInput = false := rfl

/-- Power-on reset answers no word: an earlier response does not stay (assumption 6). -/
@[simp] theorem powerOnReset_response (s : State) : (powerOnReset s).response = none := rfl

/-- Settles O3: an asserted reset input makes the step power-on reset, which takes over what is not the block's. -/
theorem powerOnResetKeepsTheSurroundings : Obligations.PowerOnResetKeepsTheSurroundings := fun s h =>
  ⟨powerOnReset s, step_of_resetInput s h, powerOnReset_port s, powerOnReset_cfg s, powerOnReset_readable s,
    powerOnReset_writable s, powerOnReset_resetInput s, powerOnReset_response s⟩

end Sys2Proof.Machine
end
